-- ==== Sys2Proof/Word.lean ====
section
/-! DEFINITION. The bit vectors of the block (00_scope.md R7): bit 0 is the least significant bit, and `++` puts its
left operand in the more significant place (R8), as `BitVec` does. -/

namespace Sys2Proof

/-- `bits[8]`: an operand byte, a telegram byte, a frame byte. -/
abbrev Byte := BitVec 8

/-- `bits[16]`: a command word, the CRC register, a decoded field. -/
abbrev Word := BitVec 16

/-- `bits[32]`: the data word of a response (30_encoding.md R74). -/
abbrev Data := BitVec 32

end Sys2Proof
end

