-- ==== Sys2Proof/Config.lean ====
section
/-! DEFINITION. The implementation parameters of 00_scope.md R6 (none is left open), and the one value the model names
for a byte of the receive buffer that holds nothing. -/

namespace Sys2Proof

/-- The checksum policies of 00_scope.md R6 and 10_state.md R30. The value 3 of the 2-bit register is never held
(93_implementation_defined.md section 2: "A model may use a 3-valued type"; log entry 8). -/
inductive Policy where
  | accept
  | warn
  | reject
deriving DecidableEq, Repr

namespace Config

/-- CRC polynomial in the right-shifting form (R6). -/
def crcPoly : Word := 0xA001#16

/-- CRC initial register value (R6). -/
def crcInit : Word := 0xFFFF#16

/-- Receive buffer capacity RX_MAX (R6). -/
def rxMax : Nat := 30

/-- Minimum decodable length DECODE_MIN, a length and not an offset (R6, 90_conflicts.md C4). -/
def decodeMin : Nat := 24

/-- Temperature offsets, low and high (R6, 20_memory.md R59). -/
def tempLo : Nat := 8
def tempHi : Nat := 9

/-- CO2 offsets, low and high (R6, 20_memory.md R59). -/
def co2Lo : Nat := 22
def co2Hi : Nat := 23

/-- Policy after reset (R6, 10_state.md R30). -/
def resetPolicy : Policy := .warn

/-- What a byte of the receive buffer reads as when nothing is listed for it.
DESIGN CHOICE (log entry 5, unsafe): the spec says "unspecified". It is never observable (10_state.md R25). -/
def unlistedByte : Byte := 0x00#8

end Config

end Sys2Proof
end

