-- ==== Sys2Proof/Syntax.lean ====
section
/-! DEFINITION. The 14 commands of 30_encoding.md R73, their mnemonics and their operand classes (R72), and a written
command line before it is checked (R78). -/

namespace Sys2Proof

/-- The 14 rows of R73, without an operand. -/
inductive Mnemonic where
  | crcInit | crcFeed | crcRead
  | frameRd
  | rxClear | rxPush
  | decode
  | rdCo2 | rdTemp | rdReading | rdHumid
  | policySet | statusRd | flagsClr
deriving DecidableEq, Repr

/-- The operand classes of R72: no operand, data byte, frame index, policy. -/
inductive OperandClass where
  | z
  | b
  | i
  | p
deriving DecidableEq, Repr

/-- A command with its operand. Classes B, I and P take every operand byte (R72); the range checks of classes I and P
belong to the command rules (41_frame.md R121, 43_results_control.md R165). -/
inductive Instr where
  | crcInit
  | crcFeed (b : Byte)
  | crcRead
  | frameRd (i : Byte)
  | rxClear
  | rxPush (b : Byte)
  | decode
  | rdCo2
  | rdTemp
  | rdReading
  | rdHumid
  | policySet (p : Byte)
  | statusRd
  | flagsClr
deriving DecidableEq, Repr

/-- A command line as R78 writes one: a mnemonic, and perhaps an operand, which is any number until it is checked. -/
structure Line where
  mnemonic : Mnemonic
  operand  : Option Nat
deriving DecidableEq, Repr

end Sys2Proof
end

