-- ==== Sys2Proof/WellFormed.lean ====
section
/-! DEFINITION. What makes a written command well formed: the operand its class asks for and no other (30_encoding.md
R72, R78), inside 0 to 255. An `Instr` carries its operand as a byte, so every `Instr` passes; the checks bite on a
`Line`. -/

namespace Sys2Proof

/-- The class column of R73. -/
def Mnemonic.operandClass : Mnemonic → OperandClass
  | .crcInit => .z
  | .crcFeed => .b
  | .crcRead => .z
  | .frameRd => .i
  | .rxClear => .z
  | .rxPush => .b
  | .decode => .z
  | .rdCo2 => .z
  | .rdTemp => .z
  | .rdReading => .z
  | .rdHumid => .z
  | .policySet => .p
  | .statusRd => .z
  | .flagsClr => .z

/-- R78: an operand on a class-Z mnemonic is refused, and so is an operand outside 0 to 255. Classes B, I and P are
written with an operand. -/
def Line.wellFormed (l : Line) : Bool :=
  match l.mnemonic.operandClass, l.operand with
  | .z, none => true
  | .z, some _ => false
  | .b, some n => decide (n ≤ 255)
  | .i, some n => decide (n ≤ 255)
  | .p, some n => decide (n ≤ 255)
  | .b, none => false
  | .i, none => false
  | .p, none => false

/-- The row of R73 an instruction belongs to. -/
def Instr.mnemonic : Instr → Mnemonic
  | .crcInit => .crcInit
  | .crcFeed _ => .crcFeed
  | .crcRead => .crcRead
  | .frameRd _ => .frameRd
  | .rxClear => .rxClear
  | .rxPush _ => .rxPush
  | .decode => .decode
  | .rdCo2 => .rdCo2
  | .rdTemp => .rdTemp
  | .rdReading => .rdReading
  | .rdHumid => .rdHumid
  | .policySet _ => .policySet
  | .statusRd => .statusRd
  | .flagsClr => .flagsClr

/-- The operand byte an instruction carries, if its class has one. -/
def Instr.operand : Instr → Option Byte
  | .crcInit => none
  | .crcFeed b => some b
  | .crcRead => none
  | .frameRd i => some i
  | .rxClear => none
  | .rxPush b => some b
  | .decode => none
  | .rdCo2 => none
  | .rdTemp => none
  | .rdReading => none
  | .rdHumid => none
  | .policySet p => some p
  | .statusRd => none
  | .flagsClr => none

/-- The line that writes an instruction. -/
def Instr.line (i : Instr) : Line := ⟨i.mnemonic, i.operand.map BitVec.toNat⟩

/-- An instruction is well formed when the line that writes it is. -/
def Instr.wellFormed (i : Instr) : Bool := i.line.wellFormed

end Sys2Proof
end

