-- ==== Sys2Proof/Decode.lean ====
section
/-! DEFINITION. Decoding and encoding of command words (30_encoding.md R71 to R76). The decoder is total on the 65536
words: a word names one command, or is rejected by the name of the group of R76 it belongs to. The encoder stands
after it. -/

namespace Sys2Proof

/-- Why a word names no command: the two groups of R76. Both answer E_ILLEGAL. -/
inductive DecodeReject where
  | undefinedOpcode (op : Byte)
  | operandOnClassZ (m : Mnemonic) (imm8 : Byte)
deriving DecidableEq, Repr

/-- `op`, bits 15:8 of a command word (R71). -/
def wordOp (w : Word) : Byte := w.extractLsb' 8 8

/-- `imm8`, bits 7:0 of a command word (R71). -/
def wordImm8 (w : Word) : Byte := w.extractLsb' 0 8

/-- The op column of R73, read from an opcode. -/
def mnemonicOfOp (op : Byte) : Option Mnemonic :=
  match op.toNat with
  | 0x01 => some .crcInit
  | 0x02 => some .crcFeed
  | 0x03 => some .crcRead
  | 0x10 => some .frameRd
  | 0x20 => some .rxClear
  | 0x21 => some .rxPush
  | 0x30 => some .decode
  | 0x40 => some .rdCo2
  | 0x41 => some .rdTemp
  | 0x42 => some .rdReading
  | 0x43 => some .rdHumid
  | 0x50 => some .policySet
  | 0x51 => some .statusRd
  | 0x52 => some .flagsClr
  | _ => none

/-- The instruction a row names with the operand byte `imm8`. A class-Z row takes none. -/
def Mnemonic.instr (m : Mnemonic) (imm8 : Byte) : Instr :=
  match m with
  | .crcInit => .crcInit
  | .crcFeed => .crcFeed imm8
  | .crcRead => .crcRead
  | .frameRd => .frameRd imm8
  | .rxClear => .rxClear
  | .rxPush => .rxPush imm8
  | .decode => .decode
  | .rdCo2 => .rdCo2
  | .rdTemp => .rdTemp
  | .rdReading => .rdReading
  | .rdHumid => .rdHumid
  | .policySet => .policySet imm8
  | .statusRd => .statusRd
  | .flagsClr => .flagsClr

/-- R75: the opcode first, then the operand of a class-Z opcode. Range checks of classes I and P come later, in the
command rules. -/
def decode (w : Word) : Except DecodeReject Instr :=
  match mnemonicOfOp (wordOp w) with
  | none => .error (.undefinedOpcode (wordOp w))
  | some m =>
    if m.operandClass = .z ∧ wordImm8 w ≠ 0#8 then .error (.operandOnClassZ m (wordImm8 w))
    else .ok (m.instr (wordImm8 w))

/-- The op column of R73, written. -/
def Mnemonic.opcode : Mnemonic → Byte
  | .crcInit => 0x01#8
  | .crcFeed => 0x02#8
  | .crcRead => 0x03#8
  | .frameRd => 0x10#8
  | .rxClear => 0x20#8
  | .rxPush => 0x21#8
  | .decode => 0x30#8
  | .rdCo2 => 0x40#8
  | .rdTemp => 0x41#8
  | .rdReading => 0x42#8
  | .rdHumid => 0x43#8
  | .policySet => 0x50#8
  | .statusRd => 0x51#8
  | .flagsClr => 0x52#8

/-- The word of an instruction: `op ++ imm8` (R71), with `imm8 = 0x00` where the class has no operand (R72). -/
def encode (i : Instr) : Word := i.mnemonic.opcode ++ i.operand.getD 0x00#8

/-- The match column of R73. -/
def Mnemonic.tableMatch : Mnemonic → Word
  | .crcInit => 0x0100#16
  | .crcFeed => 0x0200#16
  | .crcRead => 0x0300#16
  | .frameRd => 0x1000#16
  | .rxClear => 0x2000#16
  | .rxPush => 0x2100#16
  | .decode => 0x3000#16
  | .rdCo2 => 0x4000#16
  | .rdTemp => 0x4100#16
  | .rdReading => 0x4200#16
  | .rdHumid => 0x4300#16
  | .policySet => 0x5000#16
  | .statusRd => 0x5100#16
  | .flagsClr => 0x5200#16

/-- The mask column of R73. -/
def Mnemonic.tableMask (m : Mnemonic) : Word :=
  match m.operandClass with
  | .z => 0xFFFF#16
  | .b => 0xFF00#16
  | .i => 0xFF00#16
  | .p => 0xFF00#16

/-- The rows of R73 in their order. -/
def allMnemonics : List Mnemonic :=
  [.crcInit, .crcFeed, .crcRead, .frameRd, .rxClear, .rxPush, .decode,
    .rdCo2, .rdTemp, .rdReading, .rdHumid, .policySet, .statusRd, .flagsClr]

/-- The command word whose low `nbits` bits are those of `w` and whose other bits are 0 (log entry 10). -/
def commandWord (nbits w : Nat) : Word := BitVec.ofNat 16 (w % 2 ^ nbits)

/-- What the decoder reads from an instruction of `nbits` bits numbered as spec/opcode_table.json numbers them. No
command word is longer than 16 bits (R71), so a longer one names nothing (log entry 10). -/
def decodeTableWord (nbits w : Nat) : Option Instr :=
  if nbits ≤ 16 then
    match decode (commandWord nbits w) with
    | .ok i => some i
    | .error _ => none
  else none

end Sys2Proof
end

