-- ==== Sys2Proof/Machine/State.lean ====
section
/-! DEFINITION. The state of the block (10_state.md R20 to R32) with its port (30_encoding.md R70), the answers it can
give (60_exceptions.md R200), and the state after reset (70_reset_and_hazards.md R230). -/

namespace Sys2Proof.Machine

/-- The nine status codes that are ever produced (60_exceptions.md R200). -/
inductive Status where
  | ok
  | okCrcwarn
  | eNodata
  | eShort
  | eChecksum
  | eUnsupported
  | eOperand
  | eRxfull
  | eIllegal
deriving DecidableEq, Repr

/-- One response: `rsp_status` and `rsp_data` (30_encoding.md R74). -/
structure Response where
  status : Status
  data   : Data
deriving DecidableEq, Repr

/-- One event of a run: a command word or a reset (00_scope.md R12). -/
inductive Event where
  | command (w : Word)
  | reset
deriving DecidableEq, Repr

/-- The receive space: the listed bytes in one canonical form (`Memory.wf`). -/
abbrev Memory := List Host.Cell

/-- No step faults: "The block has no behaviour a model should treat as `fault` or `stuck`"
(93_implementation_defined.md section 2). So there is no constructor, and nothing raises one. Safe: it is the spec's
own totality (00_scope.md R12). -/
inductive Fault : Type
deriving DecidableEq, Repr

/-- Why an instruction has no meaning in the model. -/
inductive Refusal where
  /-- Raised by an arm of `exec` for an instruction without a meaning. No arm raises it now. Safe. -/
  | notModelled (mnemonic : String)
deriving DecidableEq, Repr

/-- What a command or a step answers. -/
abbrev Result (σ : Type) := Host.Outcome σ Fault Refusal

/-- Every piece of state the spec gives the block, and the two sides of its port. -/
structure State where
  /-- the CRC accumulator (10_state.md R22) -/
  crc       : Word
  /-- the receive buffer (R23) -/
  rx        : Memory
  /-- the count of valid bytes, 0..30 (R24) -/
  rxLen     : Fin 31
  /-- a reading is held (R27) -/
  resValid  : Bool
  /-- CO2 in ppm (R27) -/
  resCo2    : Word
  /-- temperature in 0.01 °C, two's complement (R27) -/
  resTemp   : Word
  /-- sticky: DECODE found a short buffer (R29) -/
  fShort    : Bool
  /-- sticky: a reading was stored although its checksum did not match (R29) -/
  fCrcwarn  : Bool
  /-- sticky: a telegram was rejected for its checksum (R29) -/
  fCrcrej   : Bool
  /-- sticky: a byte was pushed into a full buffer (R29) -/
  fRxovf    : Bool
  /-- the checksum policy (R30) -/
  policy    : Policy
  /-- the events presented and not yet taken, oldest first (30_encoding.md R70; log entry 1) -/
  events    : List Event
  /-- the responses given, in order (30_encoding.md R70, 70_reset_and_hazards.md R234; log entry 2) -/
  responses : List Response
deriving DecidableEq, Repr

/-- The state after reset (70_reset_and_hazards.md R230), with nothing presented and nothing answered. The bytes of
`rx` and the pair of the latch are unspecified there: DESIGN CHOICE, log entries 5 and 6. -/
def State.reset : State where
  crc       := Config.crcInit
  rx        := []
  rxLen     := 0
  resValid  := false
  resCo2    := 0x0000#16
  resTemp   := 0x0000#16
  fShort    := false
  fCrcwarn  := false
  fCrcrej   := false
  fRxovf    := false
  policy    := Config.resetPolicy
  events    := []
  responses := []

end Sys2Proof.Machine
end

