-- ==== Sys2Proof/Machine/Ops.lean ====
section
/-! DEFINITION. The operations the meanings share: the receive space and its primitives (00_scope.md R10), the frame
ROM (41_frame.md R120), the writes of state elements, answering (`respond`, `raise`, 00_scope.md R11), taking the next
event from the port, and the reset event (70_reset_and_hazards.md R230). The block has no traps (60_exceptions.md
R204); `raise` is what a failure does instead. -/

namespace Sys2Proof.Machine

/-- `zext_32` (00_scope.md R9). -/
abbrev zext32 {n : Nat} (v : BitVec n) : Data := v.setWidth 32

/-- `sext_32` (00_scope.md R9). -/
abbrev sext32 {n : Nat} (v : BitVec n) : Data := v.signExtend 32

/-! ### The receive space -/

/-- The byte at an address; an unlisted address reads as `Config.unlistedByte`. -/
def Memory.read : Memory → Nat → Byte
  | [], _ => Config.unlistedByte
  | (k, v) :: m, a => if k = a then v else Memory.read m a

/-- Write one byte, keeping the canonical form. -/
def Memory.write : Memory → Nat → Byte → Memory
  | [], a, b => if b = Config.unlistedByte then [] else [(a, b)]
  | (k, v) :: m, a, b =>
    if a < k then
      if b = Config.unlistedByte then (k, v) :: m else (a, b) :: (k, v) :: m
    else if a = k then
      if b = Config.unlistedByte then m else (a, b) :: m
    else (k, v) :: Memory.write m a b

/-- The canonical form from address `lo` up: addresses strictly rising and inside the 30 bytes of the receive space
(20_memory.md R51), and no entry that an unlisted address would read as. -/
def Memory.wfFrom : Nat → Memory → Bool
  | _, [] => true
  | lo, (k, v) :: m =>
    decide (lo ≤ k) && decide (k < Config.rxMax) && decide (v ≠ Config.unlistedByte) && Memory.wfFrom (k + 1) m

/-- The canonical form of the receive space. -/
def Memory.wf (m : Memory) : Bool := Memory.wfFrom 0 m

/-! ### The frame ROM -/

/-- FRAME[0..8], a constant (41_frame.md R120, R122). -/
def frameRom : Vector Byte 9 :=
  #v[0x52#8, 0x42#8, 0x05#8, 0x00#8, 0x01#8, 0x22#8, 0x50#8, 0xE2#8, 0xBB#8]

/-- `FrameRead(i)`, 0 <= i <= 8 (00_scope.md R10, 20_memory.md R50). -/
def frameRead (i : Fin 9) : Byte := frameRom.get i

/-! ### Writes of state elements -/

/-- `crc <- v`. -/
def State.setCrc (v : Word) (s : State) : State := { s with crc := v }

/-- `RxRead(i)` (00_scope.md R10). -/
def State.rxRead (s : State) (i : Nat) : Byte := s.rx.read i

/-- `RxWrite(i, v)` (00_scope.md R10). -/
def State.rxWrite (i : Nat) (v : Byte) (s : State) : State := { s with rx := s.rx.write i v }

/-- `rx_len <- n`. -/
def State.setRxLen (n : Fin 31) (s : State) : State := { s with rxLen := n }

/-- `commit(co2, temp)`, the one writer of the result latch (42_receive_decode.md R140). -/
def State.commit (co2 temp : Word) (s : State) : State :=
  { s with resCo2 := co2, resTemp := temp, resValid := true }

/-- `policy <- p`. -/
def State.setPolicy (p : Policy) (s : State) : State := { s with policy := p }

/-! ### Answering -/

/-- The response joins the ones already given. -/
def State.respond (st : Status) (d : Data) (s : State) : State :=
  { s with responses := s.responses ++ [⟨st, d⟩] }

/-- `respond(status, data)` ends a command (00_scope.md R11). -/
def respond (st : Status) (d : Data) (s : State) : Result State := .next (s.respond st d)

/-- `raise <Status>` is `respond(<Status>, 0x00000000)` (00_scope.md R11, 60_exceptions.md R211). Every write made
before it is kept. -/
def raise (st : Status) (s : State) : Result State := respond st 0x00000000#32 s

/-- A word that names no command: E_ILLEGAL, and no other effect (30_encoding.md R75, R76). -/
def illegalWord (s : State) : Result State := raise .eIllegal s

/-! ### The port -/

/-- What remains to be taken is `es`. -/
def State.setEvents (es : List Event) (s : State) : State := { s with events := es }

/-- The oldest event presented, and the state with that event taken. -/
def takeEvent (s : State) : Option (Event × State) :=
  match s.events with
  | [] => none
  | e :: es => some (e, s.setEvents es)

/-- Present a command word ahead of everything else. -/
def State.present (w : Word) (s : State) : State := s.setEvents (.command w :: s.events)

/-- The reset event (70_reset_and_hazards.md R230, R231): every element as in `State.reset`. The port keeps what the
host has still to send and what has been answered (log entry 7). -/
def State.resetEvent (s : State) : State :=
  { State.reset with events := s.events, responses := s.responses }

/-- A step with nothing presented: nothing happens in the block between commands (60_exceptions.md R207; log
entry 3). -/
def idle (s : State) : Result State := .next s

end Sys2Proof.Machine
end

