-- ==== Sys2Proof/Machine/Operands.lean ====
section
/-! DEFINITION. The operand classes whose range a command rule checks (30_encoding.md R72): class I, a frame index, and
class P, a policy; and the code of a policy. `imm8` is read as an unsigned number, never sign-extended, scaled or
shifted. -/

namespace Sys2Proof.Machine

/-- Class I: `u(imm8)` when it is at most 8, else nothing (41_frame.md R121). -/
def frameIndex (imm8 : Byte) : Option (Fin 9) :=
  if h : imm8.toNat < 9 then some ⟨imm8.toNat, h⟩ else none

/-- The 2-bit code of a policy (10_state.md R30). -/
def policyCode : Policy → BitVec 2
  | .accept => 0#2
  | .warn => 1#2
  | .reject => 2#2

/-- Class P: the policy of `imm8[1:0]` when `u(imm8)` is at most 2, else nothing (43_results_control.md R165). -/
def policyOperand (imm8 : Byte) : Option Policy :=
  match imm8.toNat with
  | 0 => some .accept
  | 1 => some .warn
  | 2 => some .reject
  | _ => none

end Sys2Proof.Machine
end

