-- ==== Sys2Proof/Machine/Flags.lean ====
section
/-! DEFINITION. The sticky flags (10_state.md R29), the STATUS view (R31) and the codes of the statuses
(60_exceptions.md R200). -/

namespace Sys2Proof.Machine

/-- `f_short <- 1`. -/
def State.setShort (s : State) : State := { s with fShort := true }

/-- `f_crcwarn <- 1`. -/
def State.setCrcwarn (s : State) : State := { s with fCrcwarn := true }

/-- `f_crcrej <- 1`. -/
def State.setCrcrej (s : State) : State := { s with fCrcrej := true }

/-- `f_rxovf <- 1`. -/
def State.setRxovf (s : State) : State := { s with fRxovf := true }

/-- All four flags to 0 (43_results_control.md R167). -/
def State.clearFlags (s : State) : State :=
  { s with fShort := false, fCrcwarn := false, fCrcrej := false, fRxovf := false }

/-- `rx_len[4:0]`. -/
def rxLenBits (n : Fin 31) : BitVec 5 := BitVec.ofNat 5 n.val

/-- The STATUS view (R31), its fields from the most significant down as 43_results_control.md R166 lists them. -/
def statusView (s : State) : Data :=
  0#19 ++ rxLenBits s.rxLen ++ 0#1 ++ policyCode s.policy
    ++ BitVec.ofBool s.fRxovf ++ BitVec.ofBool s.fCrcrej ++ BitVec.ofBool s.fCrcwarn
    ++ BitVec.ofBool s.fShort ++ BitVec.ofBool s.resValid

/-- The 4-bit code of a status (60_exceptions.md R200). -/
def Status.code : Status → BitVec 4
  | .ok => 0x0#4
  | .okCrcwarn => 0x1#4
  | .eNodata => 0x2#4
  | .eShort => 0x3#4
  | .eChecksum => 0x4#4
  | .eUnsupported => 0x5#4
  | .eOperand => 0x6#4
  | .eRxfull => 0x7#4
  | .eIllegal => 0x8#4

/-- A failure status: neither OK nor OK_CRCWARN (60_exceptions.md R211). -/
def Status.failure : Status → Bool
  | .ok => false
  | .okCrcwarn => false
  | .eNodata => true
  | .eShort => true
  | .eChecksum => true
  | .eUnsupported => true
  | .eOperand => true
  | .eRxfull => true
  | .eIllegal => true

end Sys2Proof.Machine
end

