-- ==== Sys2Proof/Machine/Crc.lean ====
section
/-! DEFINITION. ChecksumEngine: the functions of 40_crc.md R100 to R103 and the commands CRC.INIT, CRC.FEED and
CRC.READ (R104 to R106). -/

namespace Sys2Proof.Machine

/-- One round (R100): a logical right shift, then the polynomial if the bit shifted out was 1. -/
def crcRound (r : Word) : Word :=
  if r.getLsbD 0 then (r >>> 1) ^^^ Config.crcPoly else r >>> 1

/-- One byte (R101): into the low byte of the register, then 8 rounds. -/
def crcByte (r : Word) (b : Byte) : Word := crcRound^[8] (r ^^^ b.setWidth 16)

/-- A byte sequence, first byte first (R102). No final XOR, no reflection. -/
def crc16 (bs : List Byte) : Word := bs.foldl crcByte Config.crcInit

/-- The low output byte of a code, the one that comes first in a byte stream (R103). -/
def codeLo (c : Word) : Byte := c.extractLsb' 0 8

/-- The high output byte of a code (R103). -/
def codeHi (c : Word) : Byte := c.extractLsb' 8 8

/-- CRC.INIT (R104). -/
def execCrcInit (s : State) : Result State :=
  respond .ok 0x00000000#32 (s.setCrc Config.crcInit)

/-- CRC.FEED b (R105): the answer is the new value. -/
def execCrcFeed (b : Byte) (s : State) : Result State :=
  let s' := s.setCrc (crcByte s.crc b)
  respond .ok (zext32 s'.crc) s'

/-- CRC.READ (R106). -/
def execCrcRead (s : State) : Result State := respond .ok (zext32 s.crc) s

end Sys2Proof.Machine
end

