-- ==== Sys2Proof/Machine/Frame.lean ====
section
/-! DEFINITION. FrameBuilder: how the frame is made (41_frame.md R120) and the command FRAME.RD (R121). -/

namespace Sys2Proof.Machine

/-- HEADER[0..6] (R120). -/
def frameHeader : List Byte := [0x52#8, 0x42#8, 0x05#8, 0x00#8, 0x01#8, 0x22#8, 0x50#8]

/-- A sequence followed by its own code, low byte first (R120, 20_memory.md R54). -/
def withCode (bs : List Byte) : List Byte := bs ++ [codeLo (crc16 bs), codeHi (crc16 bs)]

/-- FRAME.RD i (R121). -/
def execFrameRd (i : Byte) (s : State) : Result State :=
  match frameIndex i with
  | none => raise .eOperand s
  | some k => respond .ok (zext32 (frameRead k)) s

end Sys2Proof.Machine
end

