-- ==== Sys2Proof/Machine/Receive.lean ====
section
/-! DEFINITION. The receive buffer and ResponseDecoder: RX.CLEAR, RX.PUSH and DECODE (42_receive_decode.md R130 to
R142). -/

namespace Sys2Proof.Machine

/-- RX.CLEAR (R130). The bytes are not erased. -/
def execRxClear (s : State) : Result State := respond .ok 0x00000000#32 (s.setRxLen 0)

/-- RX.PUSH b (R131). -/
def execRxPush (b : Byte) (s : State) : Result State :=
  if s.rxLen = 30 then raise .eRxfull s.setRxovf
  else
    let s' := (s.rxWrite s.rxLen.val b).setRxLen (s.rxLen + 1)
    respond .ok (BitVec.ofNat 32 s'.rxLen.val) s'

/-- `co2_field()` (R135): byte 23 is the more significant. -/
def State.co2Field (s : State) : Word := s.rxRead Config.co2Hi ++ s.rxRead Config.co2Lo

/-- `temp_field()` (R136): byte 9 is the more significant. -/
def State.tempField (s : State) : Word := s.rxRead Config.tempHi ++ s.rxRead Config.tempLo

/-- The bytes `[RxRead(0), ..., RxRead(k-1)]`. -/
def State.rxBytes (s : State) (k : Nat) : List Byte := (List.range k).map s.rxRead

/-- `rx_crc_ok(n)`, for 24 <= n <= 30 (R139): the code of all received bytes but the last two is those two bytes, low
byte first. It uses no state element but the buffer. -/
def State.rxCrcOk (s : State) (n : Nat) : Bool :=
  crc16 (s.rxBytes (n - 2)) == s.rxRead (n - 1) ++ s.rxRead (n - 2)

/-- DECODE (R132), its checks in the order of 60_exceptions.md R203. -/
def execDecode (s : State) : Result State :=
  let n := s.rxLen.val
  let s0 := s.setRxLen 0
  if n < Config.decodeMin then raise .eShort s0.setShort
  else
    let co2 := s0.co2Field
    let temp := s0.tempField
    if s0.policy = .accept then respond .ok (co2 ++ temp) (s0.commit co2 temp)
    else if s0.rxCrcOk n then respond .ok (co2 ++ temp) (s0.commit co2 temp)
    else if s0.policy = .warn then respond .okCrcwarn (co2 ++ temp) (s0.commit co2 temp).setCrcwarn
    else raise .eChecksum s0.setCrcrej

end Sys2Proof.Machine
end

