-- ==== Sys2Proof/Machine/Results.lean ====
section
/-! DEFINITION. The readers of the result latch: RD.CO2, RD.TEMP, RD.READING and RD.HUMID (43_results_control.md R160 to
R163), and how a stored reading is read as numbers (42_receive_decode.md R135, R137). -/

namespace Sys2Proof.Machine

/-- What the three readers share: E_NODATA while nothing is held, else OK with the reader's word. -/
def readLatch (d : Data) (s : State) : Result State :=
  if s.resValid then respond .ok d s else raise .eNodata s

/-- RD.CO2 (R160). -/
def execRdCo2 (s : State) : Result State := readLatch (zext32 s.resCo2) s

/-- RD.TEMP (R161). -/
def execRdTemp (s : State) : Result State := readLatch (sext32 s.resTemp) s

/-- RD.READING (R162): the pair in one word. -/
def execRdReading (s : State) : Result State := readLatch (s.resCo2 ++ s.resTemp) s

/-- RD.HUMID (R163): unsupported, whatever is held. -/
def execRdHumid (s : State) : Result State := raise .eUnsupported s

/-- CO2 in ppm, `u16` of the field (42_receive_decode.md R135). -/
def co2Ppm (v : Word) : Nat := v.toNat

/-- Temperature in centidegrees, `s16` of the field (R136, R137). -/
def centidegrees (v : Word) : Int := v.toInt

/-- The temperature in °C, exactly `s16 / 100` (R137). -/
def celsius (v : Word) : ℚ := (centidegrees v : ℚ) / 100

end Sys2Proof.Machine
end

