-- ==== Sys2Proof/Machine/Control.lean ====
section
/-! DEFINITION. Policy and failure reporting: POLICY.SET, STATUS.RD and FLAGS.CLR (43_results_control.md R165 to
R167). -/

namespace Sys2Proof.Machine

/-- POLICY.SET p (R165). -/
def execPolicySet (p : Byte) (s : State) : Result State :=
  match policyOperand p with
  | none => raise .eOperand s
  | some q => respond .ok 0x00000000#32 (s.setPolicy q)

/-- STATUS.RD (R166). -/
def execStatusRd (s : State) : Result State := respond .ok (statusView s) s

/-- FLAGS.CLR (R167). -/
def execFlagsClr (s : State) : Result State := respond .ok 0x00000000#32 s.clearFlags

end Sys2Proof.Machine
end

