-- ==== Sys2Proof/Machine/Dispatch.lean ====
section
/-! DEFINITION. One arm per command: the meaning each one has. -/

namespace Sys2Proof.Machine

def exec (i : Instr) (s : State) : Host.Outcome State Fault Refusal :=
  match i with
  | .crcInit => Sys2Proof.Machine.execCrcInit s
  | .crcFeed b => Sys2Proof.Machine.execCrcFeed b s
  | .crcRead => Sys2Proof.Machine.execCrcRead s
  | .frameRd k => Sys2Proof.Machine.execFrameRd k s
  | .rxClear => Sys2Proof.Machine.execRxClear s
  | .rxPush b => Sys2Proof.Machine.execRxPush b s
  | .decode => Sys2Proof.Machine.execDecode s
  | .rdCo2 => Sys2Proof.Machine.execRdCo2 s
  | .rdTemp => Sys2Proof.Machine.execRdTemp s
  | .rdReading => Sys2Proof.Machine.execRdReading s
  | .rdHumid => Sys2Proof.Machine.execRdHumid s
  | .policySet p => Sys2Proof.Machine.execPolicySet p s
  | .statusRd => Sys2Proof.Machine.execStatusRd s
  | .flagsClr => Sys2Proof.Machine.execFlagsClr s

end Sys2Proof.Machine
end

