-- ==== Sys2Proof/Machine/Step.lean ====
section
/-! DEFINITION. One step of the block: it takes the oldest event presented, and performs it (00_scope.md R12,
30_encoding.md R75). -/

namespace Sys2Proof.Machine

/-- The block's step on one command word (00_scope.md R12): a word that names a command runs it, any other answers
E_ILLEGAL. -/
def stepWord (w : Word) (s : State) : Host.Outcome State Fault Refusal :=
  match decode w with
  | .ok i => exec i s
  | .error _ => illegalWord s

/-- One event, in the order presented (20_memory.md R60). -/
def step (s : State) : Host.Outcome State Fault Refusal :=
  match takeEvent s with
  | none => idle s
  | some (.reset, s') => .next s'.resetEvent
  | some (.command w, s') => stepWord w s'

/-- The host presents a command word ahead of what it has presented before, so that the very next step takes it
(log entry 4). -/
def State.withFetchWord (s : State) (nbits w : Nat) : State := s.present (commandWord nbits w)

end Sys2Proof.Machine
end

