-- ==== Sys2Proof/Machine/Assembly.lean ====
section
/-! DEFINITION. The assembler syntax of 30_encoding.md R78: one command a line, the assembler from a line's text to its
word, and the text of a listing. Text is a list of characters. The spelling details the spec leaves open are log
entries 11 and 12. -/

namespace Sys2Proof.Machine

/-- A mnemonic as R73 writes it: upper case, with its dot. -/
def mnemonicText : Mnemonic → List Char
  | .crcInit => "CRC.INIT".toList
  | .crcFeed => "CRC.FEED".toList
  | .crcRead => "CRC.READ".toList
  | .frameRd => "FRAME.RD".toList
  | .rxClear => "RX.CLEAR".toList
  | .rxPush => "RX.PUSH".toList
  | .decode => "DECODE".toList
  | .rdCo2 => "RD.CO2".toList
  | .rdTemp => "RD.TEMP".toList
  | .rdReading => "RD.READING".toList
  | .rdHumid => "RD.HUMID".toList
  | .policySet => "POLICY.SET".toList
  | .statusRd => "STATUS.RD".toList
  | .flagsClr => "FLAGS.CLR".toList

/-- The names of the policies (R78). -/
def policyText : Policy → List Char
  | .accept => "ACCEPT".toList
  | .warn => "WARN".toList
  | .reject => "REJECT".toList

/-! ### Reading a line -/

/-- The mnemonic a text spells. -/
def readMnemonic (cs : List Char) : Option Mnemonic := allMnemonics.find? fun m => mnemonicText m == cs

/-- The value of a decimal digit. -/
def readDecDigit (c : Char) : Option Nat :=
  if '0'.toNat ≤ c.toNat ∧ c.toNat ≤ '9'.toNat then some (c.toNat - '0'.toNat) else none

/-- The value of a hexadecimal digit. -/
def readHexDigit (c : Char) : Option Nat :=
  if 'A'.toNat ≤ c.toNat ∧ c.toNat ≤ 'F'.toNat then some (c.toNat - 'A'.toNat + 10)
  else if 'a'.toNat ≤ c.toNat ∧ c.toNat ≤ 'f'.toNat then some (c.toNat - 'a'.toNat + 10)
  else readDecDigit c

/-- A decimal number, given the value of the digits already read. -/
def readDecFrom : Nat → List Char → Option Nat
  | n, [] => some n
  | n, c :: cs =>
    match readDecDigit c with
    | none => none
    | some d => readDecFrom (10 * n + d) cs

/-- A number of R78: `0x` and two hexadecimal digits, or one decimal digit and more. -/
def readNumber (cs : List Char) : Option Nat :=
  match cs with
  | [] => none
  | ['0', 'x', a, b] =>
    match readHexDigit a, readHexDigit b with
    | some h, some l => some (16 * h + l)
    | _, _ => none
  | c :: cs' => readDecFrom 0 (c :: cs')

/-- The number a policy's name stands for (R78). -/
def readPolicyName (cs : List Char) : Option Nat :=
  if cs = policyText .accept then some 0
  else if cs = policyText .warn then some 1
  else if cs = policyText .reject then some 2
  else none

/-- An operand; the policy names belong to POLICY.SET alone. -/
def readOperand (m : Mnemonic) (cs : List Char) : Option Nat :=
  if m = .policySet then
    match readPolicyName cs with
    | some n => some n
    | none => readNumber cs
  else readNumber cs

/-- The line a text writes: a mnemonic, or a mnemonic, one space and an operand. -/
def readLine (cs : List Char) : Option Line :=
  match readMnemonic (cs.takeWhile (· ≠ ' ')) with
  | none => none
  | some m =>
    match cs.dropWhile (· ≠ ' ') with
    | [] => some ⟨m, none⟩
    | _ :: operand =>
      match readOperand m operand with
      | none => none
      | some n => some ⟨m, some n⟩

/-- The word of a checked line: `(op << 8) OR operand`, and `op << 8` for class Z (R78). -/
def assembleLine (l : Line) : Option Word :=
  if l.wellFormed then
    some (l.mnemonic.opcode.setWidth 16 <<< 8 ||| BitVec.ofNat 16 (l.operand.getD 0))
  else none

/-- The word a text assembles to; nothing where the assembler refuses it. -/
def assemble (cs : List Char) : Option Word :=
  match readLine cs with
  | none => none
  | some l => assembleLine l

/-- A command stream, one command a line (R78). -/
def assembleAll : List (List Char) → Option (List Word)
  | [] => some []
  | cs :: rest =>
    match assemble cs, assembleAll rest with
    | some w, some ws => some (w :: ws)
    | _, _ => none

/-! ### Writing a listing -/

/-- A hexadecimal digit of a listing, upper case. -/
def hexDigit (n : Nat) : Char :=
  if n < 10 then Char.ofNat ('0'.toNat + n) else Char.ofNat ('A'.toNat + (n - 10))

/-- Two hexadecimal digits. -/
def hexByte (b : Byte) : List Char := [hexDigit (b.toNat / 16), hexDigit (b.toNat % 16)]

/-- Four hexadecimal digits. -/
def hexWord (w : Word) : List Char := hexByte (wordOp w) ++ hexByte (wordImm8 w)

/-- `0x` and the byte. -/
def hexOperand (b : Byte) : List Char := '0' :: 'x' :: hexByte b

/-- The operand of POLICY.SET: its name where it has one. -/
def policyOperandText (p : Byte) : List Char :=
  match policyOperand p with
  | some q => policyText q
  | none => hexOperand p

/-- The text of a command (R78). -/
def instrText (i : Instr) : List Char :=
  match i with
  | .crcInit => mnemonicText .crcInit
  | .crcFeed b => mnemonicText .crcFeed ++ ' ' :: hexOperand b
  | .crcRead => mnemonicText .crcRead
  | .frameRd k => mnemonicText .frameRd ++ ' ' :: hexOperand k
  | .rxClear => mnemonicText .rxClear
  | .rxPush b => mnemonicText .rxPush ++ ' ' :: hexOperand b
  | .decode => mnemonicText .decode
  | .rdCo2 => mnemonicText .rdCo2
  | .rdTemp => mnemonicText .rdTemp
  | .rdReading => mnemonicText .rdReading
  | .rdHumid => mnemonicText .rdHumid
  | .policySet p => mnemonicText .policySet ++ ' ' :: policyOperandText p
  | .statusRd => mnemonicText .statusRd
  | .flagsClr => mnemonicText .flagsClr

/-- A listing line: the word as four hex digits before its text (R78), as in `0252  CRC.FEED 0x52`. -/
def listingLine (i : Instr) : List Char := hexWord (encode i) ++ ' ' :: ' ' :: instrText i

end Sys2Proof.Machine
end

