-- ==== Sys2Proof/Safety.lean ====
section
/-! DEFINITION. The words claims are made in: the invariant of the block, what of a state can be observed, and runs over
commands the host presents. -/

namespace Sys2Proof.Machine

/-- What every step keeps: the receive space in its canonical form, inside its 30 bytes (20_memory.md R51), and no
failure that carries data (60_exceptions.md R211). -/
abbrev State.Inv (s : State) : Prop :=
  s.rx.wf = true ∧ ∀ r ∈ s.responses, r.status.failure = true → r.data = 0x00000000#32

/-- The word answers E_ILLEGAL with data 0 and changes nothing else, in every state (30_encoding.md R76). -/
def answersIllegal (w : Word) : Prop :=
  ∀ s : State, stepWord w s = .next { s with responses := s.responses ++ [⟨.eIllegal, 0x00000000#32⟩] }

/-- DECODE's checksum test on a state, written out (42_receive_decode.md R139): the code of the first `rx_len - 2` bytes
is the last two, low byte first. -/
abbrev State.checksumMatches (s : State) : Prop :=
  crc16 ((List.range (s.rxLen.val - 2)).map s.rx.read)
    = s.rx.read (s.rxLen.val - 1) ++ s.rx.read (s.rxLen.val - 2)

/-- Two states that no command can tell apart: they agree on everything but the stale bytes of `rx` (10_state.md R25)
and the pair of an empty latch (R28). -/
structure State.Indistinguishable (s t : State) : Prop where
  crc       : s.crc = t.crc
  rxLen     : s.rxLen = t.rxLen
  rx        : ∀ i, i < s.rxLen.val → s.rx.read i = t.rx.read i
  resValid  : s.resValid = t.resValid
  latch     : s.resValid = true → s.resCo2 = t.resCo2 ∧ s.resTemp = t.resTemp
  fShort    : s.fShort = t.fShort
  fCrcwarn  : s.fCrcwarn = t.fCrcwarn
  fCrcrej   : s.fCrcrej = t.fCrcrej
  fRxovf    : s.fRxovf = t.fRxovf
  policy    : s.policy = t.policy
  events    : s.events = t.events
  responses : s.responses = t.responses

/-- `k` events of what the host has presented, in order (20_memory.md R60). -/
abbrev runEvents (k : Nat) (s : State) : Result State := Sys2Proof.core.run k s

/-- Commands as the host presents them: each by its word. -/
def presented (is : List Instr) : List Event := is.map fun i => .command (encode i)

/-- Whether an event is a command word, which gets one response (70_reset_and_hazards.md R234). -/
def Event.isCommand : Event → Bool
  | .command _ => true
  | .reset => false

end Sys2Proof.Machine
end

