-- ==== Sys2Proof/Certificates/Slice0/Obligations.lean ====
section
/-! DEFINITION. What is claimed of the block, for the provers. Each docstring names the rule of spec/ it states. -/

open Sys2Proof Sys2Proof.Machine

/-! ### Encoding -/

/-- 30_encoding.md R71, R72, R73, R75: no bit of an instruction is lost between its word and the decoder. -/
def Obligations.DecodeOfEncodeIsTheInstruction : Prop :=
  ∀ i : Instr, i.wellFormed = true ∧ decode (encode i) = .ok i

/-- 30_encoding.md R75: a word that decodes is the one word of its instruction, so no two words mean the same command. -/
def Obligations.EncodeOfDecodeIsTheWord : Prop :=
  ∀ (w : Word) (i : Instr), decode w = .ok i → encode i = w

/-- 30_encoding.md R73: the rows of the table, and "a word `w` encodes the command when `(w AND mask) = match`". -/
def Obligations.WordEncodesTheRowItMatches : Prop :=
  (allMnemonics.map fun m => (m.opcode, m.operandClass, m.tableMatch, m.tableMask)) =
    [(0x01#8, .z, 0x0100#16, 0xFFFF#16), (0x02#8, .b, 0x0200#16, 0xFF00#16), (0x03#8, .z, 0x0300#16, 0xFFFF#16),
      (0x10#8, .i, 0x1000#16, 0xFF00#16), (0x20#8, .z, 0x2000#16, 0xFFFF#16), (0x21#8, .b, 0x2100#16, 0xFF00#16),
      (0x30#8, .z, 0x3000#16, 0xFFFF#16), (0x40#8, .z, 0x4000#16, 0xFFFF#16), (0x41#8, .z, 0x4100#16, 0xFFFF#16),
      (0x42#8, .z, 0x4200#16, 0xFFFF#16), (0x43#8, .z, 0x4300#16, 0xFFFF#16), (0x50#8, .p, 0x5000#16, 0xFF00#16),
      (0x51#8, .z, 0x5100#16, 0xFFFF#16), (0x52#8, .z, 0x5200#16, 0xFFFF#16)]
  ∧ ∀ (w : Word) (m : Mnemonic),
      (∃ i, decode w = .ok i ∧ i.mnemonic = m) ↔ w &&& m.tableMask = m.tableMatch

/-- 30_encoding.md R76: the words of its two groups answer E_ILLEGAL with no effect on state, and no other word is
rejected. 242 opcodes are undefined. -/
def Obligations.IllegalWordsAnswerIllegalOnly : Prop :=
  let defined : List Byte := [0x01#8, 0x02#8, 0x03#8, 0x10#8, 0x20#8, 0x21#8, 0x30#8, 0x40#8, 0x41#8, 0x42#8, 0x43#8,
    0x50#8, 0x51#8, 0x52#8]
  let classZ : List Byte := [0x01#8, 0x03#8, 0x20#8, 0x30#8, 0x40#8, 0x41#8, 0x42#8, 0x43#8, 0x51#8, 0x52#8]
  ((List.range 256).filter fun n => decide (BitVec.ofNat 8 n ∉ defined)).length = 242
  ∧ (∀ w : Word, wordOp w ∉ defined ∨ (wordOp w ∈ classZ ∧ wordImm8 w ≠ 0x00#8) → answersIllegal w)
  ∧ ∀ w : Word, ¬ (wordOp w ∉ defined ∨ (wordOp w ∈ classZ ∧ wordImm8 w ≠ 0x00#8)) → ∃ i, decode w = .ok i

/-- 30_encoding.md R77: the count check, over all 256 opcodes with all 256 operand bytes: 1034 legal words and 64502
illegal ones; of the legal ones, 247 words of FRAME.RD and 253 of POLICY.SET answer E_OPERAND, in every state. -/
def Obligations.LegalWordCounts : Prop :=
  let legal (op b : Nat) : Bool := (decode (BitVec.ofNat 8 op ++ BitVec.ofNat 8 b)).isOk
  ((List.range 256).map fun op => ((List.range 256).filter fun b => legal op b).length).sum = 1034
  ∧ ((List.range 256).map fun op => ((List.range 256).filter fun b => !legal op b).length).sum = 64502
  ∧ ∃ ks ps : List Byte, ks.length = 247 ∧ ks.Nodup ∧ ps.length = 253 ∧ ps.Nodup
    ∧ (∀ (k : Byte) (s : State), k ∈ ks ↔
        exec (.frameRd k) s = .next { s with responses := s.responses ++ [⟨.eOperand, 0x00000000#32⟩] })
    ∧ ∀ (p : Byte) (s : State), p ∈ ps ↔
        exec (.policySet p) s = .next { s with responses := s.responses ++ [⟨.eOperand, 0x00000000#32⟩] }

/-- 30_encoding.md R73: words written out from the table, one of each family and the operands of three. -/
def Obligations.WordsOfTheTableDecode : Prop :=
  decode 0b0000000100000000#16 = .ok .crcInit
  ∧ decode 0b0000001001010010#16 = .ok (.crcFeed 0x52#8)
  ∧ decode 0b0001000000000111#16 = .ok (.frameRd 0x07#8)
  ∧ decode 0b0010000111111110#16 = .ok (.rxPush 0xFE#8)
  ∧ decode 0b0011000000000000#16 = .ok .decode
  ∧ decode 0b0100001000000000#16 = .ok .rdReading
  ∧ decode 0b0101000000000010#16 = .ok (.policySet 0x02#8)
  ∧ decode 0b0101000100000000#16 = .ok .statusRd

/-- 30_encoding.md R78: the text of a command assembles to its word. How the text is spelled is in part the model's
choice (log entries 11 and 12). -/
def Obligations.CommandTextAssemblesToItsWord : Prop :=
  ∀ i : Instr, assemble (instrText i) = some (encode i)

/-- 30_encoding.md R78: the assembler refuses an operand outside 0 to 255 and an operand on a class-Z mnemonic; any
other operand it takes, and "The encoding of a line is `(op << 8) OR operand`". -/
def Obligations.AssemblerTakesExactlyTheLegalOperands : Prop :=
  ∀ (m : Mnemonic) (n : Nat),
    (255 < n → assembleLine ⟨m, some n⟩ = none)
    ∧ (m.operandClass = .z → assembleLine ⟨m, some n⟩ = none)
    ∧ (m.operandClass = .z → assembleLine ⟨m, none⟩ = some (m.opcode.setWidth 16 <<< 8))
    ∧ (m.operandClass ≠ .z → n ≤ 255 →
        ∃ i, i.mnemonic = m ∧ i.operand = some (BitVec.ofNat 8 n)
          ∧ assembleLine ⟨m, some n⟩ = some (encode i)
          ∧ encode i = m.opcode.setWidth 16 <<< 8 ||| BitVec.ofNat 16 n)

/-! ### The CRC functions -/

/-- 40_crc.md R100: a logical right shift, then the polynomial if bit 0 was 1; and its four corner cases. -/
def Obligations.CrcRoundShiftsThenXors : Prop :=
  (∀ r : Word, (crcRound r).toNat = if r.toNat % 2 = 1 then (r.toNat / 2) ^^^ 0xA001 else r.toNat / 2)
  ∧ crcRound 0x0000#16 = 0x0000#16 ∧ crcRound 0x0001#16 = 0xA001#16
  ∧ crcRound 0x8000#16 = 0x4000#16 ∧ crcRound 0xFFFF#16 = 0xDFFE#16

/-- 40_crc.md R101: the byte goes into the low byte of the register, bits 15:8 unchanged, then eight rounds; and the
derived examples. -/
def Obligations.CrcByteIsEightRounds : Prop :=
  (∀ (r : Word) (b : Byte), crcByte r b =
    crcRound (crcRound (crcRound (crcRound (crcRound (crcRound (crcRound (crcRound
      (codeHi r ++ (codeLo r ^^^ b)))))))))
  ) ∧ crcByte 0xFFFF#16 0x52#8 = 0xBD3E#16 ∧ crcByte 0x0000#16 0x00#8 = 0x0000#16
  ∧ crcByte 0x0000#16 0x01#8 = 0xC0C1#16 ∧ crcByte 0xFFFF#16 0xFF#8 = 0x00FF#16

/-- 40_crc.md R102: the code of the empty sequence, and of a sequence with one more byte. -/
def Obligations.CrcOfASequenceByItsLastByte : Prop :=
  crc16 [] = 0xFFFF#16 ∧ ∀ (bs : List Byte) (b : Byte), crc16 (bs ++ [b]) = crcByte (crc16 bs) b

/-- 93_implementation_defined.md GK5 (general knowledge, no rule of the spec): the model's CRC has the residue law. A
sequence followed by its own code, low byte first, has the code 0. -/
def Obligations.SequenceWithItsCodeLeavesZero : Prop :=
  ∀ bs : List Byte, crc16 (bs ++ [codeLo (crc16 bs), codeHi (crc16 bs)]) = 0x0000#16

/-! ### Command results: each holds in every state, and changes nothing but what it names -/

/-- 40_crc.md R104. -/
def Obligations.CrcInitSetsTheInitialValue : Prop :=
  decode 0x0100#16 = .ok .crcInit
  ∧ (∀ imm8 : Byte, imm8 ≠ 0x00#8 → answersIllegal (0x01#8 ++ imm8))
  ∧ ∀ s : State, exec .crcInit s =
      .next { s with crc := 0xFFFF#16, responses := s.responses ++ [⟨.ok, 0x00000000#32⟩] }

/-- 40_crc.md R105: the new value is stored and answered; a register holding the code of a sequence holds the code of
the sequence with the byte added; a zero register stays zero under a zero byte. -/
def Obligations.CrcFeedFoldsOneByte : Prop :=
  (∀ b : Byte, decode (0x02#8 ++ b) = .ok (.crcFeed b))
  ∧ (∀ (b : Byte) (s : State), exec (.crcFeed b) s =
      .next { s with crc := crcByte s.crc b, responses := s.responses ++ [⟨.ok, 0x0000#16 ++ crcByte s.crc b⟩] })
  ∧ (∀ (bs : List Byte) (b : Byte) (s : State), s.crc = crc16 bs →
      ∃ t, exec (.crcFeed b) s = .next t ∧ t.crc = crc16 (bs ++ [b]))
  ∧ crcByte 0x0000#16 0x00#8 = 0x0000#16 ∧ crcByte 0xFFFF#16 0x52#8 = 0xBD3E#16

/-- 40_crc.md R106. -/
def Obligations.CrcReadAnswersTheAccumulator : Prop :=
  decode 0x0300#16 = .ok .crcRead
  ∧ (∀ imm8 : Byte, imm8 ≠ 0x00#8 → answersIllegal (0x03#8 ++ imm8))
  ∧ ∀ s : State, exec .crcRead s =
      .next { s with responses := s.responses ++ [⟨.ok, 0x0000#16 ++ codeHi s.crc ++ codeLo s.crc⟩] }

/-- 41_frame.md R120: the frame is its bytes as tabled, and they are the header followed by the header's code, low byte
first. Building it never disturbs `crc`, and does not use it. -/
def Obligations.FrameIsTheHeaderAndItsCode : Prop :=
  frameRom.toList = [0x52#8, 0x42#8, 0x05#8, 0x00#8, 0x01#8, 0x22#8, 0x50#8, 0xE2#8, 0xBB#8]
  ∧ frameHeader = [0x52#8, 0x42#8, 0x05#8, 0x00#8, 0x01#8, 0x22#8, 0x50#8]
  ∧ crc16 frameHeader = 0xBBE2#16
  ∧ frameRom.toList = frameHeader ++ [codeLo (crc16 frameHeader), codeHi (crc16 frameHeader)]
  ∧ ∀ (k : Byte) (s t : State) (v : Word), exec (.frameRd k) s = .next t →
      t.crc = s.crc ∧ exec (.frameRd k) { s with crc := v } = .next { t with crc := v }

/-- 41_frame.md R121: OK for 0 to 8, E_OPERAND for 9 to 255, no state written. -/
def Obligations.FrameRdAnswersAByteOrOperandError : Prop :=
  (∀ k : Byte, decode (0x10#8 ++ k) = .ok (.frameRd k))
  ∧ (∀ (k : Byte) (s : State), k.toNat ≤ 8 → exec (.frameRd k) s =
      .next { s with responses := s.responses ++ [⟨.ok,
        ([0x52#32, 0x42#32, 0x05#32, 0x00#32, 0x01#32, 0x22#32, 0x50#32, 0xE2#32, 0xBB#32] : List Data).getD
          k.toNat 0x00#32⟩] })
  ∧ ∀ (k : Byte) (s : State), 8 < k.toNat → exec (.frameRd k) s =
      .next { s with responses := s.responses ++ [⟨.eOperand, 0x00000000#32⟩] }

/-- 42_receive_decode.md R130: only the count changes; the bytes are not erased and `f_rxovf` is not cleared. -/
def Obligations.RxClearEmptiesTheBuffer : Prop :=
  decode 0x2000#16 = .ok .rxClear
  ∧ (∀ imm8 : Byte, imm8 ≠ 0x00#8 → answersIllegal (0x20#8 ++ imm8))
  ∧ ∀ s : State, exec .rxClear s =
      .next { s with rxLen := 0, responses := s.responses ++ [⟨.ok, 0x00000000#32⟩] }

/-- 42_receive_decode.md R131: below 30 the byte is written at `rx_len` and no other byte changes, and the new count is
answered; at 30 the byte is dropped. -/
def Obligations.RxPushAppendsOrReportsFull : Prop :=
  (∀ b : Byte, decode (0x21#8 ++ b) = .ok (.rxPush b))
  ∧ (∀ (b : Byte) (s : State), s.rxLen.val = 30 → exec (.rxPush b) s =
      .next { s with fRxovf := true, responses := s.responses ++ [⟨.eRxfull, 0x00000000#32⟩] })
  ∧ ∀ (b : Byte) (s : State), s.rxLen.val < 30 → ∃ (m : Memory) (n : Fin 31),
      exec (.rxPush b) s =
        .next { s with
          rx := m, rxLen := n, responses := s.responses ++ [⟨.ok, BitVec.ofNat 32 (s.rxLen.val + 1)⟩] }
      ∧ n.val = s.rxLen.val + 1
      ∧ (∀ a, a ≠ s.rxLen.val → m.read a = s.rx.read a)
      ∧ (s.rx.wf = true → m.read s.rxLen.val = b ∧ m.wf = true)

/-- 42_receive_decode.md R132, R133: the outcomes of DECODE, in every state, with the fields at offsets 23, 22 and 9, 8.
In every outcome the buffer is consumed, its bytes are not erased, and `crc` and `policy` are unchanged. -/
def Obligations.DecodeOutcomes : Prop :=
  decode 0x3000#16 = .ok .decode
  ∧ (∀ imm8 : Byte, imm8 ≠ 0x00#8 → answersIllegal (0x30#8 ++ imm8))
  ∧ ∀ s : State,
      let co2 : Word := s.rx.read 23 ++ s.rx.read 22
      let temp : Word := s.rx.read 9 ++ s.rx.read 8
      exec .decode s = .next (
        if s.rxLen.val < 24 then
          { s with rxLen := 0, fShort := true, responses := s.responses ++ [⟨.eShort, 0x00000000#32⟩] }
        else if s.policy = .accept ∨ s.checksumMatches then
          { s with
            rxLen := 0, resValid := true, resCo2 := co2, resTemp := temp,
            responses := s.responses ++ [⟨.ok, co2 ++ temp⟩] }
        else if s.policy = .warn then
          { s with
            rxLen := 0, resValid := true, resCo2 := co2, resTemp := temp, fCrcwarn := true,
            responses := s.responses ++ [⟨.okCrcwarn, co2 ++ temp⟩] }
        else
          { s with rxLen := 0, fCrcrej := true, responses := s.responses ++ [⟨.eChecksum, 0x00000000#32⟩] })

/-- 42_receive_decode.md R135, R136: whenever DECODE stores a reading (24 bytes or more, and not a mismatch under
REJECT), every 16-bit pattern is stored, and what is stored reads as the numbers the bytes say: CO2 unsigned,
temperature two's complement, no check, clamp, offset or scale. -/
def Obligations.StoredReadingIsWhatTheBytesSay : Prop :=
  ∀ s : State, 24 ≤ s.rxLen.val → (s.policy ≠ .reject ∨ s.checksumMatches) → ∃ t, exec .decode s = .next t
    ∧ t.resValid = true
    ∧ co2Ppm t.resCo2 = 256 * (s.rx.read 23).toNat + (s.rx.read 22).toNat
    ∧ centidegrees t.resTemp =
        (let n : Int := 256 * (s.rx.read 9).toNat + (s.rx.read 8).toNat; if n < 32768 then n else n - 65536)

/-- 42_receive_decode.md R137: the temperature in °C is exactly the number of centidegrees over 100, between -327.68 and
327.67. -/
def Obligations.TemperatureIsExactHundredths : Prop :=
  ∀ v : Word, 100 * celsius v = (centidegrees v : ℚ) ∧ -32768 / 100 ≤ celsius v ∧ celsius v ≤ 32767 / 100

/-- 43_results_control.md R160. -/
def Obligations.RdCo2AnswersTheLatch : Prop :=
  decode 0x4000#16 = .ok .rdCo2
  ∧ (∀ imm8 : Byte, imm8 ≠ 0x00#8 → answersIllegal (0x40#8 ++ imm8))
  ∧ ∀ s : State, exec .rdCo2 s =
      .next { s with responses := s.responses ++
        [if s.resValid then ⟨.ok, 0x0000#16 ++ s.resCo2⟩ else ⟨.eNodata, 0x00000000#32⟩] }

/-- 43_results_control.md R161: the answer reads as the same signed number as the field. -/
def Obligations.RdTempAnswersTheLatchSigned : Prop :=
  decode 0x4100#16 = .ok .rdTemp
  ∧ (∀ imm8 : Byte, imm8 ≠ 0x00#8 → answersIllegal (0x41#8 ++ imm8))
  ∧ (∀ s : State, ∃ d : Data, d.toInt = s.resTemp.toInt
      ∧ exec .rdTemp s =
        .next { s with responses := s.responses ++
          [if s.resValid then ⟨.ok, d⟩ else ⟨.eNodata, 0x00000000#32⟩] })
  ∧ (0x8000#16).signExtend 32 = 0xFFFF8000#32 ∧ (0x7FFF#16).signExtend 32 = 0x00007FFF#32
  ∧ (0xFF9C#16).signExtend 32 = 0xFFFFFF9C#32 ∧ (0x0000#16).signExtend 32 = 0x00000000#32

/-- 43_results_control.md R162: CO2 in bits 31 to 16, the raw temperature in bits 15 to 0. -/
def Obligations.RdReadingAnswersThePair : Prop :=
  decode 0x4200#16 = .ok .rdReading
  ∧ (∀ imm8 : Byte, imm8 ≠ 0x00#8 → answersIllegal (0x42#8 ++ imm8))
  ∧ ∀ s : State, exec .rdReading s =
      .next { s with responses := s.responses ++
        [if s.resValid then ⟨.ok, s.resCo2 ++ s.resTemp⟩ else ⟨.eNodata, 0x00000000#32⟩] }

/-- 43_results_control.md R163: the same answer whatever the state. -/
def Obligations.RdHumidIsUnsupported : Prop :=
  decode 0x4300#16 = .ok .rdHumid
  ∧ (∀ imm8 : Byte, imm8 ≠ 0x00#8 → answersIllegal (0x43#8 ++ imm8))
  ∧ ∀ s : State, exec .rdHumid s =
      .next { s with responses := s.responses ++ [⟨.eUnsupported, 0x00000000#32⟩] }

/-- 43_results_control.md R165: 0, 1 and 2 select ACCEPT, WARN and REJECT; 3 to 255 are refused with `policy`
unchanged. -/
def Obligations.PolicySetSelectsOrRefuses : Prop :=
  (∀ p : Byte, decode (0x50#8 ++ p) = .ok (.policySet p))
  ∧ (policyCode .accept = 0#2 ∧ policyCode .warn = 1#2 ∧ policyCode .reject = 2#2)
  ∧ (∀ (p : Byte) (s : State), p.toNat ≤ 2 → ∃ q : Policy, policyCode q = p.extractLsb' 0 2
      ∧ exec (.policySet p) s =
        .next { s with policy := q, responses := s.responses ++ [⟨.ok, 0x00000000#32⟩] })
  ∧ ∀ (p : Byte) (s : State), 2 < p.toNat → exec (.policySet p) s =
      .next { s with responses := s.responses ++ [⟨.eOperand, 0x00000000#32⟩] }

/-- 43_results_control.md R166 and 10_state.md R31: each field of STATUS at its bits, the reserved bits 0, and
0x00000020 after reset. Reading changes nothing. -/
def Obligations.StatusRdAnswersTheStatusFields : Prop :=
  decode 0x5100#16 = .ok .statusRd
  ∧ (∀ imm8 : Byte, imm8 ≠ 0x00#8 → answersIllegal (0x51#8 ++ imm8))
  ∧ (∀ s : State, ∃ d : Data,
      exec .statusRd s = .next { s with responses := s.responses ++ [⟨.ok, d⟩] }
      ∧ d.getLsbD 0 = s.resValid ∧ d.getLsbD 1 = s.fShort ∧ d.getLsbD 2 = s.fCrcwarn
      ∧ d.getLsbD 3 = s.fCrcrej ∧ d.getLsbD 4 = s.fRxovf
      ∧ d.extractLsb' 5 2 = policyCode s.policy
      ∧ d.getLsbD 7 = false
      ∧ (d.extractLsb' 8 5).toNat = s.rxLen.val
      ∧ d.extractLsb' 13 19 = 0#19)
  ∧ exec .statusRd State.reset = .next { State.reset with responses := [⟨.ok, 0x00000020#32⟩] }

/-- 43_results_control.md R167: all four flags to 0 and nothing else. -/
def Obligations.FlagsClrClearsTheFourFlags : Prop :=
  decode 0x5200#16 = .ok .flagsClr
  ∧ (∀ imm8 : Byte, imm8 ≠ 0x00#8 → answersIllegal (0x52#8 ++ imm8))
  ∧ ∀ s : State, exec .flagsClr s =
      .next { s with
        fShort := false, fCrcwarn := false, fCrcrej := false, fRxovf := false,
        responses := s.responses ++ [⟨.ok, 0x00000000#32⟩] }

/-! ### What no command changes: frames and rules about the whole block -/

/-- 60_exceptions.md R212 and 30_encoding.md R70: every command, in every state, gives a next state with one response
more; it takes no event from the port. -/
def Obligations.EveryCommandCompletesWithOneResponse : Prop :=
  ∀ (i : Instr) (s : State), ∃ (t : State) (r : Response),
    exec i s = .next t ∧ t.events = s.events ∧ t.responses = s.responses ++ [r]

/-- 43_results_control.md R164: the seven read commands write no state, and answer the same whatever else stands on the
port. -/
def Obligations.ReadCommandsWriteNothing : Prop :=
  ∀ i : Instr,
    (i = .crcRead ∨ (∃ k, i = .frameRd k) ∨ i = .rdCo2 ∨ i = .rdTemp ∨ i = .rdReading ∨ i = .rdHumid ∨ i = .statusRd) →
    ∀ s : State, ∃ r : Response, ∀ (es : List Event) (rs : List Response),
      exec i { s with events := es, responses := rs } = .next { s with events := es, responses := rs ++ [r] }

/-- 10_state.md R22: who writes `crc`, and that no command but CRC.FEED and CRC.READ reads it (with another value there,
every other command does the same to everything else). -/
def Obligations.CrcBelongsToTheCrcCommands : Prop :=
  State.reset.crc = 0xFFFF#16
  ∧ (∀ (i : Instr) (s t : State), exec i s = .next t →
      t.crc = match i with
        | .crcInit => 0xFFFF#16
        | .crcFeed b => crcByte s.crc b
        | _ => s.crc)
  ∧ ∀ (i : Instr) (s t : State) (v : Word), i ≠ .crcRead → (∀ b, i ≠ .crcFeed b) → exec i s = .next t →
      ∃ c, exec i { s with crc := v } = .next { t with crc := c }

/-- 10_state.md R24: who writes `rx_len` and how, its reset value, its range, and the field STATUS.RD shows. -/
def Obligations.RxLenChangesAsStated : Prop :=
  State.reset.rxLen.val = 0
  ∧ (∀ (i : Instr) (s t : State), exec i s = .next t →
      t.rxLen.val = match i with
        | .rxClear => 0
        | .decode => 0
        | .rxPush _ => if s.rxLen.val < 30 then s.rxLen.val + 1 else s.rxLen.val
        | _ => s.rxLen.val)
  ∧ ∀ s : State, s.rxLen.val ≤ 30 ∧ ((statusView s).extractLsb' 8 5).toNat = s.rxLen.val

/-- 10_state.md R23: the frame of the receive buffer. Only RX.PUSH into a buffer that is not full changes a byte, and
that byte is the one at `rx_len`. -/
def Obligations.BufferBytesChangeOnlyByPush : Prop :=
  ∀ (i : Instr) (s t : State), exec i s = .next t → ∀ a : Nat,
    ¬ ((∃ b, i = .rxPush b) ∧ s.rxLen.val < 30 ∧ a = s.rxLen.val) → t.rx.read a = s.rx.read a

/-- 10_state.md R28: the pair is written whole, by one committing DECODE, from the buffer that DECODE consumed; while
nothing is held the three readers answer E_NODATA; and a valid latch stays valid under every command. -/
def Obligations.LatchIsWrittenWholeByDecode : Prop :=
  (∀ (i : Instr) (s t : State), exec i s = .next t →
    (t.resValid = s.resValid ∧ t.resCo2 = s.resCo2 ∧ t.resTemp = s.resTemp)
    ∨ (i = .decode ∧ 24 ≤ s.rxLen.val ∧ t.resValid = true
        ∧ t.resCo2 = s.rx.read 23 ++ s.rx.read 22 ∧ t.resTemp = s.rx.read 9 ++ s.rx.read 8))
  ∧ (∀ (i : Instr) (s : State), (i = .rdCo2 ∨ i = .rdTemp ∨ i = .rdReading) → s.resValid = false →
      exec i s = .next { s with responses := s.responses ++ [⟨.eNodata, 0x00000000#32⟩] })
  ∧ ∀ (i : Instr) (s t : State), exec i s = .next t → s.resValid = true → t.resValid = true

/-- 10_state.md R29: each flag is set by its one condition, cleared only by FLAGS.CLR or by reset, and read by STATUS.RD
alone (with other flags there, every other command does the same to everything but the flags). -/
def Obligations.FlagsAreStickyAsTabled : Prop :=
  (∀ (i : Instr) (s t : State), exec i s = .next t →
    (t.fShort = true ↔ i ≠ .flagsClr ∧ (s.fShort = true ∨ i = .decode ∧ s.rxLen.val < 24))
    ∧ (t.fCrcwarn = true ↔ i ≠ .flagsClr ∧ (s.fCrcwarn = true
        ∨ i = .decode ∧ 24 ≤ s.rxLen.val ∧ s.policy = .warn ∧ ¬ s.checksumMatches))
    ∧ (t.fCrcrej = true ↔ i ≠ .flagsClr ∧ (s.fCrcrej = true
        ∨ i = .decode ∧ 24 ≤ s.rxLen.val ∧ s.policy = .reject ∧ ¬ s.checksumMatches))
    ∧ (t.fRxovf = true ↔ i ≠ .flagsClr ∧ (s.fRxovf = true ∨ (∃ b, i = .rxPush b) ∧ s.rxLen.val = 30)))
  ∧ (∀ (s : State) (rest : List Event), s.events = .reset :: rest → ∃ t, step s = .next t
      ∧ t.fShort = false ∧ t.fCrcwarn = false ∧ t.fCrcrej = false ∧ t.fRxovf = false)
  ∧ ∀ (i : Instr) (s t t' : State) (a b c d : Bool), i ≠ .statusRd → exec i s = .next t →
      exec i { s with fShort := a, fCrcwarn := b, fCrcrej := c, fRxovf := d } = .next t' →
      t' = { t with fShort := t'.fShort, fCrcwarn := t'.fCrcwarn, fCrcrej := t'.fCrcrej, fRxovf := t'.fRxovf }

/-- 10_state.md R30: `policy` is WARN after reset, changes only by an accepted POLICY.SET, to the policy its operand
encodes, and never has the code 3. -/
def Obligations.PolicyChangesOnlyByPolicySet : Prop :=
  State.reset.policy = .warn
  ∧ (∀ q : Policy, policyCode q ≠ 3#2)
  ∧ ∀ (i : Instr) (s t : State), exec i s = .next t →
      t.policy = s.policy ∨ ∃ p : Byte, i = .policySet p ∧ p.toNat ≤ 2 ∧ policyCode t.policy = p.extractLsb' 0 2

/-- 60_exceptions.md R202: every failure is precise. It is raised by the commands tabled, and writes what is tabled and
nothing else; `t.responses` is what the answer adds. -/
def Obligations.FailuresArePrecise : Prop :=
  (∀ w : Word, (∃ r, decode w = .error r) → answersIllegal w)
  ∧ ∀ (i : Instr) (s : State), ∃ (t : State) (st : Status) (d : Data),
      exec i s = .next t ∧ t.responses = s.responses ++ [⟨st, d⟩]
      ∧ st ≠ .eIllegal
      ∧ (st = .eOperand → ((∃ k, i = .frameRd k) ∨ ∃ p, i = .policySet p) ∧ t = { s with responses := t.responses })
      ∧ (st = .eNodata → (i = .rdCo2 ∨ i = .rdTemp ∨ i = .rdReading) ∧ t = { s with responses := t.responses })
      ∧ (st = .eUnsupported → i = .rdHumid ∧ t = { s with responses := t.responses })
      ∧ (st = .eRxfull → (∃ b, i = .rxPush b) ∧ t = { s with fRxovf := true, responses := t.responses })
      ∧ (st = .eShort → i = .decode ∧ t = { s with rxLen := 0, fShort := true, responses := t.responses })
      ∧ (st = .eChecksum → i = .decode ∧ t = { s with rxLen := 0, fCrcrej := true, responses := t.responses })

/-- 60_exceptions.md R211: a status other than OK and OK_CRCWARN comes with the data word 0, and OK_CRCWARN with the
reading it stored. For every command word. -/
def Obligations.FailureAnswersCarryNoData : Prop :=
  ∀ (w : Word) (s : State), ∃ (t : State) (r : Response),
    stepWord w s = .next t ∧ t.responses = s.responses ++ [r]
    ∧ (r.status ≠ .ok → r.status ≠ .okCrcwarn → r.data = 0x00000000#32)
    ∧ (r.status = .okCrcwarn → t.resValid = true ∧ r.data = t.resCo2 ++ t.resTemp)

/-- 60_exceptions.md R200: the codes of the nine statuses. -/
def Obligations.StatusCodesAsTabled : Prop :=
  ([.ok, .okCrcwarn, .eNodata, .eShort, .eChecksum, .eUnsupported, .eOperand, .eRxfull, .eIllegal] : List Status).map
    Status.code = [0x0#4, 0x1#4, 0x2#4, 0x3#4, 0x4#4, 0x5#4, 0x6#4, 0x7#4, 0x8#4]
  ∧ ∀ st : Status, st.code.toNat ≤ 8

/-- 20_memory.md R58: pure reads, idempotent commands and commands that are not; a second DECODE in a row answers
E_SHORT. -/
def Obligations.IdempotencyByCommandClass : Prop :=
  let read (i : Instr) : Prop :=
    i = .crcRead ∨ (∃ k, i = .frameRd k) ∨ i = .rdCo2 ∨ i = .rdTemp ∨ i = .rdReading ∨ i = .rdHumid ∨ i = .statusRd
  (∀ (i j : Instr) (s : State), read i → read j → ∃ r q : Response,
    exec i s = .next { s with responses := s.responses ++ [r] }
    ∧ exec j s = .next { s with responses := s.responses ++ [q] }
    ∧ exec j { s with responses := s.responses ++ [r] } = .next { s with responses := s.responses ++ [r] ++ [q] })
  ∧ (∀ (i : Instr) (s t : State),
    (i = .crcInit ∨ i = .rxClear ∨ (∃ p, i = .policySet p) ∨ i = .flagsClr) →
    exec i s = .next t → ∃ u, exec i t = .next u ∧ u = { t with responses := u.responses })
  ∧ (∃ (b : Byte) (s t u : State), exec (.crcFeed b) s = .next t ∧ exec (.crcFeed b) t = .next u ∧ u.crc ≠ t.crc)
  ∧ (∃ (b : Byte) (s t u : State), exec (.rxPush b) s = .next t ∧ exec (.rxPush b) t = .next u ∧ u.rxLen ≠ t.rxLen)
  ∧ (∃ s t u : State, exec .decode s = .next t ∧ exec .decode t = .next u ∧ u.fShort ≠ t.fShort)
  ∧ ∀ s t : State, exec .decode s = .next t → exec .decode t =
      .next { t with fShort := true, responses := t.responses ++ [⟨.eShort, 0x00000000#32⟩] }

/-- 20_memory.md R63: with a reading held and no DECODE between them, RD.READING answers the two fields that RD.CO2 and
RD.TEMP answer. -/
def Obligations.SnapshotIsThePairOfReads : Prop :=
  ∀ s : State, s.resValid = true → ∃ a b d : Data,
    exec .rdCo2 s = .next { s with responses := s.responses ++ [⟨.ok, a⟩] }
    ∧ exec .rdTemp s = .next { s with responses := s.responses ++ [⟨.ok, b⟩] }
    ∧ exec .rdReading s = .next { s with responses := s.responses ++ [⟨.ok, d⟩] }
    ∧ d = a.extractLsb' 0 16 ++ b.extractLsb' 0 16

/-! ### The step, the port and reset -/

/-- 30_encoding.md R75, R76 and 00_scope.md R12: a step on a command word that decodes is that command, on the state with
the word taken from the port; on a word that does not decode it answers E_ILLEGAL with data 0 and changes nothing but the
port. -/
def Obligations.StepRunsTheDecodedCommand : Prop :=
  ∀ (s : State) (w : Word) (rest : List Event), s.events = .command w :: rest →
    (∀ i, decode w = .ok i → step s = exec i { s with events := rest })
    ∧ ∀ r, decode w = .error r → step s = .next { s with
        events := rest, responses := s.responses ++ [⟨.eIllegal, 0x00000000#32⟩] }

/-- 30_encoding.md R70 and 20_memory.md R60: a step takes the oldest event and no other, and a command word gets exactly
one response. -/
def Obligations.CommandStepAnswersOnce : Prop :=
  ∀ (s : State) (w : Word) (rest : List Event), s.events = .command w :: rest →
    ∃ (t : State) (r : Response), step s = .next t ∧ t.events = rest ∧ t.responses = s.responses ++ [r]

/-- 60_exceptions.md R212 and 00_scope.md R12: no run stops, from any state. (What a step does with nothing presented is
the model's choice, log entry 3.) -/
def Obligations.NoRunStops : Prop :=
  ∀ (k : Nat) (s : State), ∃ t, runEvents k s = .next t

/-- 70_reset_and_hazards.md R234: a run over all that is presented takes every event, keeps every response already given,
and adds one response per command word. -/
def Obligations.RunAnswersEveryCommand : Prop :=
  ∀ s : State, ∃ (t : State) (rs : List Response),
    runEvents s.events.length s = .next t ∧ t.events = [] ∧ t.responses = s.responses ++ rs
    ∧ rs.length = (s.events.filter Event.isCommand).length

/-- 70_reset_and_hazards.md R230: the table of reset values, from any state, with STATUS reading 0x00000020 and the frame
unchanged. Every element a command can observe has one value, so the reset state does not depend on the state before. -/
def Obligations.ResetEventRestoresTheResetValues : Prop :=
  ∀ (s : State) (rest : List Event), s.events = .reset :: rest → ∃ t, step s = .next t
    ∧ t.crc = 0xFFFF#16 ∧ t.rxLen.val = 0 ∧ t.resValid = false
    ∧ t.fShort = false ∧ t.fCrcwarn = false ∧ t.fCrcrej = false ∧ t.fRxovf = false
    ∧ t.policy = .warn ∧ statusView t = 0x00000020#32
    ∧ ∀ k : Byte, ∃ r : Response,
        exec (.frameRd k) s = .next { s with responses := s.responses ++ [r] }
        ∧ exec (.frameRd k) t = .next { t with responses := t.responses ++ [r] }

/-- 70_reset_and_hazards.md R230: the reset values of State.reset that the spec gives. -/
def Obligations.ResetStateHasTheResetValues : Prop :=
  State.reset.crc = 0xFFFF#16 ∧ State.reset.rxLen.val = 0 ∧ State.reset.resValid = false
  ∧ State.reset.fShort = false ∧ State.reset.fCrcwarn = false ∧ State.reset.fCrcrej = false
  ∧ State.reset.fRxovf = false ∧ State.reset.policy = .warn ∧ statusView State.reset = 0x00000020#32

/-- The invariant holds at reset: the receive space is canonical and no failure carries data. -/
def Obligations.InvariantHoldsAtReset : Prop :=
  State.reset.Inv

/-- 20_memory.md R51 and 60_exceptions.md R211: every step keeps the receive space in its canonical form inside its 30
bytes, and keeps every failure answered without data. -/
def Obligations.StepKeepsTheInvariant : Prop :=
  ∀ s t : State, s.Inv → step s = .next t → t.Inv

/-! ### Runs over commands, from any state -/

/-- 10_state.md R25, R28 and 93_implementation_defined.md section 2: whatever the stale bytes and the pair of an empty
latch hold, every run gives the same responses and states no command can tell apart. So no observation rests on log
entries 5 and 6. -/
def Obligations.UnspecifiedContentsAreNeverObserved : Prop :=
  ∀ (k : Nat) (s t : State), s.rx.wf = true → t.rx.wf = true → s.Indistinguishable t →
    ∃ s' t', runEvents k s = .next s' ∧ runEvents k t = .next t' ∧ s'.Indistinguishable t'

/-- 30_encoding.md (the map of source operations) with 40_crc.md R102 to R106: CRC.INIT, one CRC.FEED a byte and CRC.READ
compute the code of any byte sequence, each feed answering the code so far, and touch nothing else. -/
def Obligations.CrcCommandsComputeTheCode : Prop :=
  ∀ (bs : List Byte) (s : State) (rest : List Event),
    s.events = presented (.crcInit :: bs.map .crcFeed ++ [.crcRead]) ++ rest →
    runEvents (bs.length + 2) s = .next { s with
      crc := crc16 bs
      events := rest
      responses := s.responses ++ ⟨.ok, 0x00000000#32⟩
        :: (List.range bs.length).map (fun k => (⟨.ok, 0x0000#16 ++ crc16 (bs.take (k + 1))⟩ : Response))
        ++ [⟨.ok, 0x0000#16 ++ crc16 bs⟩] }

/-- 41_frame.md R120, R121, R122: FRAME.RD 0 to FRAME.RD 8 in order answer the header followed by its code, from any
state, and touch nothing. -/
def Obligations.FrameCommandsEmitTheFrame : Prop :=
  ∀ (s : State) (rest : List Event),
    s.events = presented ((List.range 9).map fun k => .frameRd (BitVec.ofNat 8 k)) ++ rest →
    runEvents 9 s = .next { s with
      events := rest
      responses := s.responses ++ (withCode frameHeader).map fun b => ⟨.ok, b.setWidth 32⟩ }

/-- 42_receive_decode.md R131 and 20_memory.md R51: after RX.CLEAR, pushing any number of bytes leaves the first 30 of
them in the buffer in push order, and sets `f_rxovf` exactly when there were more. -/
def Obligations.BufferHoldsTheFirstThirtyBytes : Prop :=
  ∀ (bs : List Byte) (s : State) (rest : List Event), s.rx.wf = true →
    s.events = presented (.rxClear :: bs.map .rxPush) ++ rest →
    ∃ t : State, runEvents (bs.length + 1) s = .next t
      ∧ t.events = rest
      ∧ t.rxLen.val = min bs.length 30
      ∧ (∀ k, k < min bs.length 30 → t.rx.read k = bs.getD k 0x00#8)
      ∧ (t.fRxovf = true ↔ s.fRxovf = true ∨ 30 < bs.length)

/-- 42_receive_decode.md R131 to R142: a telegram of 24 to 30 bytes, pushed after RX.CLEAR and decoded, from any state.
Its checksum is its own last two bytes, and the outcome is R133's for the policy in force. -/
def Obligations.PushedTelegramIsDecoded : Prop :=
  ∀ (bs : List Byte) (s : State) (rest : List Event), 24 ≤ bs.length → bs.length ≤ 30 → s.rx.wf = true →
    s.events = presented (.rxClear :: bs.map .rxPush ++ [.decode]) ++ rest →
    let byte : Nat → Byte := fun k => bs.getD k 0x00#8
    let co2 : Word := byte 23 ++ byte 22
    let temp : Word := byte 9 ++ byte 8
    let ok : Prop := crc16 (bs.take (bs.length - 2)) = byte (bs.length - 1) ++ byte (bs.length - 2)
    ∃ (m : Memory) (rs : List Response), rs.length = bs.length + 1 ∧
      ((s.policy = .accept ∨ ok) → runEvents (bs.length + 2) s = .next { s with
        rx := m, rxLen := 0, resValid := true, resCo2 := co2, resTemp := temp, events := rest,
        responses := s.responses ++ rs ++ [⟨.ok, co2 ++ temp⟩] })
      ∧ (s.policy = .warn → ¬ ok → runEvents (bs.length + 2) s = .next { s with
        rx := m, rxLen := 0, resValid := true, resCo2 := co2, resTemp := temp, fCrcwarn := true, events := rest,
        responses := s.responses ++ rs ++ [⟨.okCrcwarn, co2 ++ temp⟩] })
      ∧ (s.policy = .reject → ¬ ok → runEvents (bs.length + 2) s = .next { s with
        rx := m, rxLen := 0, fCrcrej := true, events := rest,
        responses := s.responses ++ rs ++ [⟨.eChecksum, 0x00000000#32⟩] })
end

