-- ==== Sys2Proof/Laws/Memory.lean ====
section
/-! SUPPORT. The laws of the receive space: a read after a write, and that a write keeps the canonical form. -/

namespace Sys2Proof.Machine

theorem Memory.read_nil (a : Nat) : Memory.read [] a = Config.unlistedByte := rfl

theorem Memory.read_cons (k : Nat) (v : Byte) (m : Memory) (a : Nat) :
    Memory.read ((k, v) :: m) a = if k = a then v else Memory.read m a := rfl

theorem Memory.wfFrom_cons {lo k : Nat} {v : Byte} {m : Memory} :
    Memory.wfFrom lo ((k, v) :: m) = true ↔
      lo ≤ k ∧ k < Config.rxMax ∧ v ≠ Config.unlistedByte ∧ Memory.wfFrom (k + 1) m = true := by
  simp [Memory.wfFrom, and_assoc]

/-- Lowering the bound keeps the form. -/
theorem Memory.wfFrom_of_le {lo lo' : Nat} {m : Memory} (hle : lo ≤ lo') (h : Memory.wfFrom lo' m = true) :
    Memory.wfFrom lo m = true := by
  cases m with
  | nil => rfl
  | cons c m =>
    obtain ⟨k, v⟩ := c
    rw [Memory.wfFrom_cons] at h ⊢
    exact ⟨hle.trans h.1, h.2⟩

/-- Nothing is listed below the bound. -/
theorem Memory.read_below {lo a : Nat} {m : Memory} (h : Memory.wfFrom lo m = true) (ha : a < lo) :
    m.read a = Config.unlistedByte := by
  induction m generalizing lo with
  | nil => rfl
  | cons c m ih =>
    obtain ⟨k, v⟩ := c
    rw [Memory.wfFrom_cons] at h
    rw [Memory.read_cons, if_neg (by omega)]
    exact ih h.2.2.2 (by omega)

/-- A write leaves every other byte alone. -/
theorem Memory.read_write_other (m : Memory) {a a' : Nat} (b : Byte) (hne : a' ≠ a) :
    (m.write a b).read a' = m.read a' := by
  induction m with
  | nil => simp only [Memory.write]; split <;> simp [Memory.read, Ne.symm hne]
  | cons c m ih =>
    obtain ⟨k, v⟩ := c
    simp only [Memory.write]
    split
    · split <;> simp [Memory.read, Ne.symm hne]
    · split
      · next h => subst h; split <;> simp [Memory.read, Ne.symm hne]
      · simp [Memory.read, ih]

/-- A byte written reads back. -/
theorem Memory.read_write_same {lo a : Nat} {m : Memory} (b : Byte) (h : Memory.wfFrom lo m = true) :
    (m.write a b).read a = b := by
  induction m generalizing lo with
  | nil => simp only [Memory.write]; split <;> simp [Memory.read, *]
  | cons c m ih =>
    obtain ⟨k, v⟩ := c
    rw [Memory.wfFrom_cons] at h
    simp only [Memory.write]
    split
    · split
      · next hb => rw [hb, Memory.read_cons, if_neg (by omega)]; exact Memory.read_below h.2.2.2 (by omega)
      · simp [Memory.read]
    · split
      · next hk => subst hk; split
                   · next hb => rw [hb]; exact Memory.read_below h.2.2.2 (by omega)
                   · simp [Memory.read]
      · rw [Memory.read_cons, if_neg (by omega)]; exact ih h.2.2.2

/-- A write inside the receive space keeps the canonical form, from any bound the address respects. -/
theorem Memory.wfFrom_write {lo a : Nat} {m : Memory} (b : Byte) (h : Memory.wfFrom lo m = true) (hlo : lo ≤ a)
    (ha : a < Config.rxMax) : Memory.wfFrom lo (m.write a b) = true := by
  induction m generalizing lo with
  | nil =>
    simp only [Memory.write]
    split
    · rfl
    · next hb => rw [Memory.wfFrom_cons]; exact ⟨hlo, ha, hb, rfl⟩
  | cons c m ih =>
    obtain ⟨k, v⟩ := c
    have h' := Memory.wfFrom_cons.1 h
    simp only [Memory.write]
    split
    · next hk =>
      split
      · exact h
      · next hb => rw [Memory.wfFrom_cons, Memory.wfFrom_cons]; exact ⟨hlo, ha, hb, by omega, h'.2⟩
    · split
      · next hk =>
        subst hk
        split
        · exact Memory.wfFrom_of_le (by omega) h'.2.2.2
        · next hb => rw [Memory.wfFrom_cons]; exact ⟨hlo, ha, hb, h'.2.2.2⟩
      · rw [Memory.wfFrom_cons]; exact ⟨h'.1, h'.2.1, h'.2.2.1, ih h'.2.2.2 (by omega)⟩

/-- A write inside the receive space keeps the canonical form. -/
theorem Memory.wf_write {m : Memory} {a : Nat} (b : Byte) (h : m.wf = true) (ha : a < Config.rxMax) :
    (m.write a b).wf = true :=
  Memory.wfFrom_write b h (Nat.zero_le a) ha

/-- The reset receive space has the canonical form. -/
theorem Memory.wf_reset : State.reset.rx.wf = true := rfl

end Sys2Proof.Machine
end

