-- ==== Sys2Proof/Laws/State.lean ====
section
/-! SUPPORT. One lemma per field per write of State, each true by rfl. -/

namespace Sys2Proof.Machine

/-! ### State.setCrc -/

@[simp] theorem State.setCrc_crc (v : Word) (s : State) : (s.setCrc v).crc = v := rfl
@[simp] theorem State.setCrc_rx (v : Word) (s : State) : (s.setCrc v).rx = s.rx := rfl
@[simp] theorem State.setCrc_rxLen (v : Word) (s : State) : (s.setCrc v).rxLen = s.rxLen := rfl
@[simp] theorem State.setCrc_resValid (v : Word) (s : State) : (s.setCrc v).resValid = s.resValid := rfl
@[simp] theorem State.setCrc_resCo2 (v : Word) (s : State) : (s.setCrc v).resCo2 = s.resCo2 := rfl
@[simp] theorem State.setCrc_resTemp (v : Word) (s : State) : (s.setCrc v).resTemp = s.resTemp := rfl
@[simp] theorem State.setCrc_fShort (v : Word) (s : State) : (s.setCrc v).fShort = s.fShort := rfl
@[simp] theorem State.setCrc_fCrcwarn (v : Word) (s : State) : (s.setCrc v).fCrcwarn = s.fCrcwarn := rfl
@[simp] theorem State.setCrc_fCrcrej (v : Word) (s : State) : (s.setCrc v).fCrcrej = s.fCrcrej := rfl
@[simp] theorem State.setCrc_fRxovf (v : Word) (s : State) : (s.setCrc v).fRxovf = s.fRxovf := rfl
@[simp] theorem State.setCrc_policy (v : Word) (s : State) : (s.setCrc v).policy = s.policy := rfl
@[simp] theorem State.setCrc_events (v : Word) (s : State) : (s.setCrc v).events = s.events := rfl
@[simp] theorem State.setCrc_responses (v : Word) (s : State) : (s.setCrc v).responses = s.responses := rfl

/-! ### State.rxWrite -/

@[simp] theorem State.rxWrite_crc (i : Nat) (v : Byte) (s : State) : (s.rxWrite i v).crc = s.crc := rfl
@[simp] theorem State.rxWrite_rx (i : Nat) (v : Byte) (s : State) : (s.rxWrite i v).rx = s.rx.write i v := rfl
@[simp] theorem State.rxWrite_rxLen (i : Nat) (v : Byte) (s : State) : (s.rxWrite i v).rxLen = s.rxLen := rfl
@[simp] theorem State.rxWrite_resValid (i : Nat) (v : Byte) (s : State) : (s.rxWrite i v).resValid = s.resValid := rfl
@[simp] theorem State.rxWrite_resCo2 (i : Nat) (v : Byte) (s : State) : (s.rxWrite i v).resCo2 = s.resCo2 := rfl
@[simp] theorem State.rxWrite_resTemp (i : Nat) (v : Byte) (s : State) : (s.rxWrite i v).resTemp = s.resTemp := rfl
@[simp] theorem State.rxWrite_fShort (i : Nat) (v : Byte) (s : State) : (s.rxWrite i v).fShort = s.fShort := rfl
@[simp] theorem State.rxWrite_fCrcwarn (i : Nat) (v : Byte) (s : State) : (s.rxWrite i v).fCrcwarn = s.fCrcwarn := rfl
@[simp] theorem State.rxWrite_fCrcrej (i : Nat) (v : Byte) (s : State) : (s.rxWrite i v).fCrcrej = s.fCrcrej := rfl
@[simp] theorem State.rxWrite_fRxovf (i : Nat) (v : Byte) (s : State) : (s.rxWrite i v).fRxovf = s.fRxovf := rfl
@[simp] theorem State.rxWrite_policy (i : Nat) (v : Byte) (s : State) : (s.rxWrite i v).policy = s.policy := rfl
@[simp] theorem State.rxWrite_events (i : Nat) (v : Byte) (s : State) : (s.rxWrite i v).events = s.events := rfl
@[simp] theorem State.rxWrite_responses (i : Nat) (v : Byte) (s : State) : (s.rxWrite i v).responses = s.responses := rfl

/-! ### State.setRxLen -/

@[simp] theorem State.setRxLen_crc (n : Fin 31) (s : State) : (s.setRxLen n).crc = s.crc := rfl
@[simp] theorem State.setRxLen_rx (n : Fin 31) (s : State) : (s.setRxLen n).rx = s.rx := rfl
@[simp] theorem State.setRxLen_rxLen (n : Fin 31) (s : State) : (s.setRxLen n).rxLen = n := rfl
@[simp] theorem State.setRxLen_resValid (n : Fin 31) (s : State) : (s.setRxLen n).resValid = s.resValid := rfl
@[simp] theorem State.setRxLen_resCo2 (n : Fin 31) (s : State) : (s.setRxLen n).resCo2 = s.resCo2 := rfl
@[simp] theorem State.setRxLen_resTemp (n : Fin 31) (s : State) : (s.setRxLen n).resTemp = s.resTemp := rfl
@[simp] theorem State.setRxLen_fShort (n : Fin 31) (s : State) : (s.setRxLen n).fShort = s.fShort := rfl
@[simp] theorem State.setRxLen_fCrcwarn (n : Fin 31) (s : State) : (s.setRxLen n).fCrcwarn = s.fCrcwarn := rfl
@[simp] theorem State.setRxLen_fCrcrej (n : Fin 31) (s : State) : (s.setRxLen n).fCrcrej = s.fCrcrej := rfl
@[simp] theorem State.setRxLen_fRxovf (n : Fin 31) (s : State) : (s.setRxLen n).fRxovf = s.fRxovf := rfl
@[simp] theorem State.setRxLen_policy (n : Fin 31) (s : State) : (s.setRxLen n).policy = s.policy := rfl
@[simp] theorem State.setRxLen_events (n : Fin 31) (s : State) : (s.setRxLen n).events = s.events := rfl
@[simp] theorem State.setRxLen_responses (n : Fin 31) (s : State) : (s.setRxLen n).responses = s.responses := rfl

/-! ### State.commit -/

@[simp] theorem State.commit_crc (c d : Word) (s : State) : (s.commit c d).crc = s.crc := rfl
@[simp] theorem State.commit_rx (c d : Word) (s : State) : (s.commit c d).rx = s.rx := rfl
@[simp] theorem State.commit_rxLen (c d : Word) (s : State) : (s.commit c d).rxLen = s.rxLen := rfl
@[simp] theorem State.commit_resValid (c d : Word) (s : State) : (s.commit c d).resValid = true := rfl
@[simp] theorem State.commit_resCo2 (c d : Word) (s : State) : (s.commit c d).resCo2 = c := rfl
@[simp] theorem State.commit_resTemp (c d : Word) (s : State) : (s.commit c d).resTemp = d := rfl
@[simp] theorem State.commit_fShort (c d : Word) (s : State) : (s.commit c d).fShort = s.fShort := rfl
@[simp] theorem State.commit_fCrcwarn (c d : Word) (s : State) : (s.commit c d).fCrcwarn = s.fCrcwarn := rfl
@[simp] theorem State.commit_fCrcrej (c d : Word) (s : State) : (s.commit c d).fCrcrej = s.fCrcrej := rfl
@[simp] theorem State.commit_fRxovf (c d : Word) (s : State) : (s.commit c d).fRxovf = s.fRxovf := rfl
@[simp] theorem State.commit_policy (c d : Word) (s : State) : (s.commit c d).policy = s.policy := rfl
@[simp] theorem State.commit_events (c d : Word) (s : State) : (s.commit c d).events = s.events := rfl
@[simp] theorem State.commit_responses (c d : Word) (s : State) : (s.commit c d).responses = s.responses := rfl

/-! ### State.setPolicy -/

@[simp] theorem State.setPolicy_crc (p : Policy) (s : State) : (s.setPolicy p).crc = s.crc := rfl
@[simp] theorem State.setPolicy_rx (p : Policy) (s : State) : (s.setPolicy p).rx = s.rx := rfl
@[simp] theorem State.setPolicy_rxLen (p : Policy) (s : State) : (s.setPolicy p).rxLen = s.rxLen := rfl
@[simp] theorem State.setPolicy_resValid (p : Policy) (s : State) : (s.setPolicy p).resValid = s.resValid := rfl
@[simp] theorem State.setPolicy_resCo2 (p : Policy) (s : State) : (s.setPolicy p).resCo2 = s.resCo2 := rfl
@[simp] theorem State.setPolicy_resTemp (p : Policy) (s : State) : (s.setPolicy p).resTemp = s.resTemp := rfl
@[simp] theorem State.setPolicy_fShort (p : Policy) (s : State) : (s.setPolicy p).fShort = s.fShort := rfl
@[simp] theorem State.setPolicy_fCrcwarn (p : Policy) (s : State) : (s.setPolicy p).fCrcwarn = s.fCrcwarn := rfl
@[simp] theorem State.setPolicy_fCrcrej (p : Policy) (s : State) : (s.setPolicy p).fCrcrej = s.fCrcrej := rfl
@[simp] theorem State.setPolicy_fRxovf (p : Policy) (s : State) : (s.setPolicy p).fRxovf = s.fRxovf := rfl
@[simp] theorem State.setPolicy_policy (p : Policy) (s : State) : (s.setPolicy p).policy = p := rfl
@[simp] theorem State.setPolicy_events (p : Policy) (s : State) : (s.setPolicy p).events = s.events := rfl
@[simp] theorem State.setPolicy_responses (p : Policy) (s : State) : (s.setPolicy p).responses = s.responses := rfl

/-! ### State.respond -/

@[simp] theorem State.respond_crc (r : Status) (d : Data) (s : State) : (s.respond r d).crc = s.crc := rfl
@[simp] theorem State.respond_rx (r : Status) (d : Data) (s : State) : (s.respond r d).rx = s.rx := rfl
@[simp] theorem State.respond_rxLen (r : Status) (d : Data) (s : State) : (s.respond r d).rxLen = s.rxLen := rfl
@[simp] theorem State.respond_resValid (r : Status) (d : Data) (s : State) : (s.respond r d).resValid = s.resValid := rfl
@[simp] theorem State.respond_resCo2 (r : Status) (d : Data) (s : State) : (s.respond r d).resCo2 = s.resCo2 := rfl
@[simp] theorem State.respond_resTemp (r : Status) (d : Data) (s : State) : (s.respond r d).resTemp = s.resTemp := rfl
@[simp] theorem State.respond_fShort (r : Status) (d : Data) (s : State) : (s.respond r d).fShort = s.fShort := rfl
@[simp] theorem State.respond_fCrcwarn (r : Status) (d : Data) (s : State) : (s.respond r d).fCrcwarn = s.fCrcwarn := rfl
@[simp] theorem State.respond_fCrcrej (r : Status) (d : Data) (s : State) : (s.respond r d).fCrcrej = s.fCrcrej := rfl
@[simp] theorem State.respond_fRxovf (r : Status) (d : Data) (s : State) : (s.respond r d).fRxovf = s.fRxovf := rfl
@[simp] theorem State.respond_policy (r : Status) (d : Data) (s : State) : (s.respond r d).policy = s.policy := rfl
@[simp] theorem State.respond_events (r : Status) (d : Data) (s : State) : (s.respond r d).events = s.events := rfl
@[simp] theorem State.respond_responses (r : Status) (d : Data) (s : State) : (s.respond r d).responses = s.responses ++ [⟨r, d⟩] := rfl

/-! ### State.setEvents -/

@[simp] theorem State.setEvents_crc (es : List Event) (s : State) : (s.setEvents es).crc = s.crc := rfl
@[simp] theorem State.setEvents_rx (es : List Event) (s : State) : (s.setEvents es).rx = s.rx := rfl
@[simp] theorem State.setEvents_rxLen (es : List Event) (s : State) : (s.setEvents es).rxLen = s.rxLen := rfl
@[simp] theorem State.setEvents_resValid (es : List Event) (s : State) : (s.setEvents es).resValid = s.resValid := rfl
@[simp] theorem State.setEvents_resCo2 (es : List Event) (s : State) : (s.setEvents es).resCo2 = s.resCo2 := rfl
@[simp] theorem State.setEvents_resTemp (es : List Event) (s : State) : (s.setEvents es).resTemp = s.resTemp := rfl
@[simp] theorem State.setEvents_fShort (es : List Event) (s : State) : (s.setEvents es).fShort = s.fShort := rfl
@[simp] theorem State.setEvents_fCrcwarn (es : List Event) (s : State) : (s.setEvents es).fCrcwarn = s.fCrcwarn := rfl
@[simp] theorem State.setEvents_fCrcrej (es : List Event) (s : State) : (s.setEvents es).fCrcrej = s.fCrcrej := rfl
@[simp] theorem State.setEvents_fRxovf (es : List Event) (s : State) : (s.setEvents es).fRxovf = s.fRxovf := rfl
@[simp] theorem State.setEvents_policy (es : List Event) (s : State) : (s.setEvents es).policy = s.policy := rfl
@[simp] theorem State.setEvents_events (es : List Event) (s : State) : (s.setEvents es).events = es := rfl
@[simp] theorem State.setEvents_responses (es : List Event) (s : State) : (s.setEvents es).responses = s.responses := rfl

/-! ### State.present -/

@[simp] theorem State.present_crc (w : Word) (s : State) : (s.present w).crc = s.crc := rfl
@[simp] theorem State.present_rx (w : Word) (s : State) : (s.present w).rx = s.rx := rfl
@[simp] theorem State.present_rxLen (w : Word) (s : State) : (s.present w).rxLen = s.rxLen := rfl
@[simp] theorem State.present_resValid (w : Word) (s : State) : (s.present w).resValid = s.resValid := rfl
@[simp] theorem State.present_resCo2 (w : Word) (s : State) : (s.present w).resCo2 = s.resCo2 := rfl
@[simp] theorem State.present_resTemp (w : Word) (s : State) : (s.present w).resTemp = s.resTemp := rfl
@[simp] theorem State.present_fShort (w : Word) (s : State) : (s.present w).fShort = s.fShort := rfl
@[simp] theorem State.present_fCrcwarn (w : Word) (s : State) : (s.present w).fCrcwarn = s.fCrcwarn := rfl
@[simp] theorem State.present_fCrcrej (w : Word) (s : State) : (s.present w).fCrcrej = s.fCrcrej := rfl
@[simp] theorem State.present_fRxovf (w : Word) (s : State) : (s.present w).fRxovf = s.fRxovf := rfl
@[simp] theorem State.present_policy (w : Word) (s : State) : (s.present w).policy = s.policy := rfl
@[simp] theorem State.present_events (w : Word) (s : State) : (s.present w).events = .command w :: s.events := rfl
@[simp] theorem State.present_responses (w : Word) (s : State) : (s.present w).responses = s.responses := rfl

/-! ### State.setShort -/

@[simp] theorem State.setShort_crc (s : State) : s.setShort.crc = s.crc := rfl
@[simp] theorem State.setShort_rx (s : State) : s.setShort.rx = s.rx := rfl
@[simp] theorem State.setShort_rxLen (s : State) : s.setShort.rxLen = s.rxLen := rfl
@[simp] theorem State.setShort_resValid (s : State) : s.setShort.resValid = s.resValid := rfl
@[simp] theorem State.setShort_resCo2 (s : State) : s.setShort.resCo2 = s.resCo2 := rfl
@[simp] theorem State.setShort_resTemp (s : State) : s.setShort.resTemp = s.resTemp := rfl
@[simp] theorem State.setShort_fShort (s : State) : s.setShort.fShort = true := rfl
@[simp] theorem State.setShort_fCrcwarn (s : State) : s.setShort.fCrcwarn = s.fCrcwarn := rfl
@[simp] theorem State.setShort_fCrcrej (s : State) : s.setShort.fCrcrej = s.fCrcrej := rfl
@[simp] theorem State.setShort_fRxovf (s : State) : s.setShort.fRxovf = s.fRxovf := rfl
@[simp] theorem State.setShort_policy (s : State) : s.setShort.policy = s.policy := rfl
@[simp] theorem State.setShort_events (s : State) : s.setShort.events = s.events := rfl
@[simp] theorem State.setShort_responses (s : State) : s.setShort.responses = s.responses := rfl

/-! ### State.setCrcwarn -/

@[simp] theorem State.setCrcwarn_crc (s : State) : s.setCrcwarn.crc = s.crc := rfl
@[simp] theorem State.setCrcwarn_rx (s : State) : s.setCrcwarn.rx = s.rx := rfl
@[simp] theorem State.setCrcwarn_rxLen (s : State) : s.setCrcwarn.rxLen = s.rxLen := rfl
@[simp] theorem State.setCrcwarn_resValid (s : State) : s.setCrcwarn.resValid = s.resValid := rfl
@[simp] theorem State.setCrcwarn_resCo2 (s : State) : s.setCrcwarn.resCo2 = s.resCo2 := rfl
@[simp] theorem State.setCrcwarn_resTemp (s : State) : s.setCrcwarn.resTemp = s.resTemp := rfl
@[simp] theorem State.setCrcwarn_fShort (s : State) : s.setCrcwarn.fShort = s.fShort := rfl
@[simp] theorem State.setCrcwarn_fCrcwarn (s : State) : s.setCrcwarn.fCrcwarn = true := rfl
@[simp] theorem State.setCrcwarn_fCrcrej (s : State) : s.setCrcwarn.fCrcrej = s.fCrcrej := rfl
@[simp] theorem State.setCrcwarn_fRxovf (s : State) : s.setCrcwarn.fRxovf = s.fRxovf := rfl
@[simp] theorem State.setCrcwarn_policy (s : State) : s.setCrcwarn.policy = s.policy := rfl
@[simp] theorem State.setCrcwarn_events (s : State) : s.setCrcwarn.events = s.events := rfl
@[simp] theorem State.setCrcwarn_responses (s : State) : s.setCrcwarn.responses = s.responses := rfl

/-! ### State.setCrcrej -/

@[simp] theorem State.setCrcrej_crc (s : State) : s.setCrcrej.crc = s.crc := rfl
@[simp] theorem State.setCrcrej_rx (s : State) : s.setCrcrej.rx = s.rx := rfl
@[simp] theorem State.setCrcrej_rxLen (s : State) : s.setCrcrej.rxLen = s.rxLen := rfl
@[simp] theorem State.setCrcrej_resValid (s : State) : s.setCrcrej.resValid = s.resValid := rfl
@[simp] theorem State.setCrcrej_resCo2 (s : State) : s.setCrcrej.resCo2 = s.resCo2 := rfl
@[simp] theorem State.setCrcrej_resTemp (s : State) : s.setCrcrej.resTemp = s.resTemp := rfl
@[simp] theorem State.setCrcrej_fShort (s : State) : s.setCrcrej.fShort = s.fShort := rfl
@[simp] theorem State.setCrcrej_fCrcwarn (s : State) : s.setCrcrej.fCrcwarn = s.fCrcwarn := rfl
@[simp] theorem State.setCrcrej_fCrcrej (s : State) : s.setCrcrej.fCrcrej = true := rfl
@[simp] theorem State.setCrcrej_fRxovf (s : State) : s.setCrcrej.fRxovf = s.fRxovf := rfl
@[simp] theorem State.setCrcrej_policy (s : State) : s.setCrcrej.policy = s.policy := rfl
@[simp] theorem State.setCrcrej_events (s : State) : s.setCrcrej.events = s.events := rfl
@[simp] theorem State.setCrcrej_responses (s : State) : s.setCrcrej.responses = s.responses := rfl

/-! ### State.setRxovf -/

@[simp] theorem State.setRxovf_crc (s : State) : s.setRxovf.crc = s.crc := rfl
@[simp] theorem State.setRxovf_rx (s : State) : s.setRxovf.rx = s.rx := rfl
@[simp] theorem State.setRxovf_rxLen (s : State) : s.setRxovf.rxLen = s.rxLen := rfl
@[simp] theorem State.setRxovf_resValid (s : State) : s.setRxovf.resValid = s.resValid := rfl
@[simp] theorem State.setRxovf_resCo2 (s : State) : s.setRxovf.resCo2 = s.resCo2 := rfl
@[simp] theorem State.setRxovf_resTemp (s : State) : s.setRxovf.resTemp = s.resTemp := rfl
@[simp] theorem State.setRxovf_fShort (s : State) : s.setRxovf.fShort = s.fShort := rfl
@[simp] theorem State.setRxovf_fCrcwarn (s : State) : s.setRxovf.fCrcwarn = s.fCrcwarn := rfl
@[simp] theorem State.setRxovf_fCrcrej (s : State) : s.setRxovf.fCrcrej = s.fCrcrej := rfl
@[simp] theorem State.setRxovf_fRxovf (s : State) : s.setRxovf.fRxovf = true := rfl
@[simp] theorem State.setRxovf_policy (s : State) : s.setRxovf.policy = s.policy := rfl
@[simp] theorem State.setRxovf_events (s : State) : s.setRxovf.events = s.events := rfl
@[simp] theorem State.setRxovf_responses (s : State) : s.setRxovf.responses = s.responses := rfl

/-! ### State.clearFlags -/

@[simp] theorem State.clearFlags_crc (s : State) : s.clearFlags.crc = s.crc := rfl
@[simp] theorem State.clearFlags_rx (s : State) : s.clearFlags.rx = s.rx := rfl
@[simp] theorem State.clearFlags_rxLen (s : State) : s.clearFlags.rxLen = s.rxLen := rfl
@[simp] theorem State.clearFlags_resValid (s : State) : s.clearFlags.resValid = s.resValid := rfl
@[simp] theorem State.clearFlags_resCo2 (s : State) : s.clearFlags.resCo2 = s.resCo2 := rfl
@[simp] theorem State.clearFlags_resTemp (s : State) : s.clearFlags.resTemp = s.resTemp := rfl
@[simp] theorem State.clearFlags_fShort (s : State) : s.clearFlags.fShort = false := rfl
@[simp] theorem State.clearFlags_fCrcwarn (s : State) : s.clearFlags.fCrcwarn = false := rfl
@[simp] theorem State.clearFlags_fCrcrej (s : State) : s.clearFlags.fCrcrej = false := rfl
@[simp] theorem State.clearFlags_fRxovf (s : State) : s.clearFlags.fRxovf = false := rfl
@[simp] theorem State.clearFlags_policy (s : State) : s.clearFlags.policy = s.policy := rfl
@[simp] theorem State.clearFlags_events (s : State) : s.clearFlags.events = s.events := rfl
@[simp] theorem State.clearFlags_responses (s : State) : s.clearFlags.responses = s.responses := rfl

/-! ### State.resetEvent -/

@[simp] theorem State.resetEvent_crc (s : State) : s.resetEvent.crc = State.reset.crc := rfl
@[simp] theorem State.resetEvent_rx (s : State) : s.resetEvent.rx = State.reset.rx := rfl
@[simp] theorem State.resetEvent_rxLen (s : State) : s.resetEvent.rxLen = State.reset.rxLen := rfl
@[simp] theorem State.resetEvent_resValid (s : State) : s.resetEvent.resValid = State.reset.resValid := rfl
@[simp] theorem State.resetEvent_resCo2 (s : State) : s.resetEvent.resCo2 = State.reset.resCo2 := rfl
@[simp] theorem State.resetEvent_resTemp (s : State) : s.resetEvent.resTemp = State.reset.resTemp := rfl
@[simp] theorem State.resetEvent_fShort (s : State) : s.resetEvent.fShort = State.reset.fShort := rfl
@[simp] theorem State.resetEvent_fCrcwarn (s : State) : s.resetEvent.fCrcwarn = State.reset.fCrcwarn := rfl
@[simp] theorem State.resetEvent_fCrcrej (s : State) : s.resetEvent.fCrcrej = State.reset.fCrcrej := rfl
@[simp] theorem State.resetEvent_fRxovf (s : State) : s.resetEvent.fRxovf = State.reset.fRxovf := rfl
@[simp] theorem State.resetEvent_policy (s : State) : s.resetEvent.policy = State.reset.policy := rfl
@[simp] theorem State.resetEvent_events (s : State) : s.resetEvent.events = s.events := rfl
@[simp] theorem State.resetEvent_responses (s : State) : s.resetEvent.responses = s.responses := rfl

end Sys2Proof.Machine
end

