-- ==== Sys2Proof/Laws/Ops.lean ====
section
/-! SUPPORT. One lemma per shared operation: everything it can answer. -/

namespace Sys2Proof.Machine

/-- Answering always gives a next state, the one with the response added. -/
theorem respond_next {st : Status} {d : Data} {s t : State} (h : respond st d s = .next t) : t = s.respond st d := by
  simpa [respond, eq_comm] using h

/-- A failure gives a next state with data 0 and nothing undone. -/
theorem raise_next {st : Status} {s t : State} (h : raise st s = .next t) : t = s.respond st 0x00000000#32 :=
  respond_next h

/-- A reader of the latch answers its word when a reading is held, and E_NODATA otherwise. -/
theorem readLatch_eq (d : Data) (s : State) :
    readLatch d s
      = .next (s.respond (if s.resValid then .ok else .eNodata) (if s.resValid then d else 0x00000000#32)) := by
  unfold readLatch
  split <;> rfl

/-- Nothing is taken from an empty port. -/
theorem takeEvent_nil {s : State} (h : s.events = []) : takeEvent s = none := by
  simp [takeEvent, h]

/-- The oldest event is taken, and nothing but the port changes. -/
theorem takeEvent_cons {s : State} {e : Event} {es : List Event} (h : s.events = e :: es) :
    takeEvent s = some (e, s.setEvents es) := by
  simp [takeEvent, h]

/-- A frame index in range is the number the operand reads as. -/
theorem frameIndex_of_lt {i : Byte} (h : i.toNat < 9) : frameIndex i = some ⟨i.toNat, h⟩ := by
  simp [frameIndex, h]

/-- A frame index out of range is none. -/
theorem frameIndex_of_ge {i : Byte} (h : 9 ≤ i.toNat) : frameIndex i = none := by
  simp [frameIndex, Nat.not_lt.2 h]

/-- A policy operand above 2 is none. -/
theorem policyOperand_of_gt {p : Byte} (h : 2 < p.toNat) : policyOperand p = none := by
  unfold policyOperand
  split <;> first | omega | rfl

/-- A policy operand that is accepted is the code of its policy, in its low two bits. -/
theorem policyOperand_code {p : Byte} {q : Policy} (h : policyOperand p = some q) :
    p.toNat ≤ 2 ∧ policyCode q = p.extractLsb' 0 2 := by
  unfold policyOperand at h
  split at h
  case h_4 => cases h
  all_goals
    next hp =>
      cases h
      have hp' : p = BitVec.ofNat 8 p.toNat := by simp
      rw [hp', hp]
      decide

/-- `rx_len + 1` does not wrap below 30 (00_scope.md R8). -/
theorem rxLen_succ {n : Fin 31} (h : n ≠ 30) : (n + 1).val = n.val + 1 := by
  have h' : n.val ≠ 30 := fun e => h (Fin.ext e)
  have := n.isLt
  rw [Fin.val_add]
  simp only [Fin.val_one]
  omega

/-- `rx_len = 30` is the full buffer. -/
theorem rxLen_eq_thirty {n : Fin 31} : n = 30 ↔ n.val = 30 :=
  ⟨fun h => h ▸ rfl, fun h => Fin.ext h⟩

end Sys2Proof.Machine
end

