-- ==== Sys2Proof/Laws/PerInstr.lean ====
section
/-! SUPPORT. One family of statements made per instruction: an instruction is well formed, and its word carries the
opcode of its row (30_encoding.md R71, R73). -/

namespace Sys2Proof.Laws.WordCarriesOpcode

/-- The line that writes the instruction passes the checks, and the word has the row's opcode in bits 15:8. -/
def Statement (i : Instr) : Prop := i.wellFormed = true ∧ wordOp (encode i) = i.mnemonic.opcode

/-- Bits 15:8 of `op ++ imm8` are `op`. -/
theorem wordOp_append (op imm8 : Byte) : wordOp (op ++ imm8) = op := by
  have h : (op ++ imm8 : BitVec (8 + 8)).extractLsb' 8 8 = op := by
    apply BitVec.eq_of_getLsbD_eq
    intro i hi
    rw [BitVec.getLsbD_extractLsb', BitVec.getLsbD_append]
    simp [hi]
  exact h

/-- An operand byte is within 0 to 255. -/
theorem byte_le (b : Byte) : decide (b.toNat ≤ 255) = true := by
  have := b.isLt
  simp; omega

theorem crcInit : Statement .crcInit := ⟨rfl, wordOp_append _ _⟩
theorem crcFeed (b : Byte) : Statement (.crcFeed b) := ⟨byte_le b, wordOp_append _ _⟩
theorem crcRead : Statement .crcRead := ⟨rfl, wordOp_append _ _⟩
theorem frameRd (i : Byte) : Statement (.frameRd i) := ⟨byte_le i, wordOp_append _ _⟩
theorem rxClear : Statement .rxClear := ⟨rfl, wordOp_append _ _⟩
theorem rxPush (b : Byte) : Statement (.rxPush b) := ⟨byte_le b, wordOp_append _ _⟩
theorem decode : Statement .decode := ⟨rfl, wordOp_append _ _⟩
theorem rdCo2 : Statement .rdCo2 := ⟨rfl, wordOp_append _ _⟩
theorem rdTemp : Statement .rdTemp := ⟨rfl, wordOp_append _ _⟩
theorem rdReading : Statement .rdReading := ⟨rfl, wordOp_append _ _⟩
theorem rdHumid : Statement .rdHumid := ⟨rfl, wordOp_append _ _⟩
theorem policySet (p : Byte) : Statement (.policySet p) := ⟨byte_le p, wordOp_append _ _⟩
theorem statusRd : Statement .statusRd := ⟨rfl, wordOp_append _ _⟩
theorem flagsClr : Statement .flagsClr := ⟨rfl, wordOp_append _ _⟩

end Sys2Proof.Laws.WordCarriesOpcode
end

