-- ==== Sys2Proof/Laws/Run.lean ====
section
/-! SUPPORT. A run taken one step at a time. -/

namespace Sys2Proof.Machine

/-- Running nothing stays where it is. -/
theorem runEvents_zero (s : State) : runEvents 0 s = .next s := rfl

/-- A run of any machine whose first step gives `t` goes on from `t`. -/
theorem coreRun_succ (M : Host.Core) (k : Nat) (s t : M.State) (h : M.step s = .next t) :
    M.run (k + 1) s = M.run k t := by
  simp only [Host.Core.run, h]

/-- A run whose first step gives `t` goes on from `t`. -/
theorem runEvents_succ (k : Nat) {s t : State} (h : step s = .next t) : runEvents (k + 1) s = runEvents k t :=
  coreRun_succ Sys2Proof.core k s t h

end Sys2Proof.Machine
end

