-- ==== Sys2Proof/Tests/Slice0.lean ====
section
/-! SUPPORT. Tests, and a witness for the hypotheses of each claim that has any. Every expected value is one of the
spec's: the encodings of 30_encoding.md R73, the corner cases of the command rules, and the vectors of
95_test_vectors.md, named in each docstring. -/

namespace Sys2Proof.Tests

set_option Elab.async false

open Sys2Proof Sys2Proof.Machine

/-! ### Helpers -/

/-- The state a result gives. -/
def after (r : Result State) : Option State :=
  match r with
  | .next s => some s
  | .fault _ => none
  | .refused _ => none

/-- The response a result gives. -/
def answer (r : Result State) : Option Response :=
  match after r with
  | some s => s.responses.getLast?
  | none => none

/-- The state after reset with `bs` in the receive buffer. -/
def buffered (bs : List Byte) : State :=
  { State.reset with
    rx := bs.zipIdx.foldl (fun m p => m.write p.2 p.1) []
    rxLen := Fin.ofNat 31 bs.length }

/-- The state after reset with a reading in the latch. -/
def latched (co2 temp : Word) : State :=
  { State.reset with resValid := true, resCo2 := co2, resTemp := temp }

/-- All four flags set, under REJECT (the state of V-RES-21 to V-RES-24). -/
def flagged : State :=
  { State.reset with
    rxLen := 30, fShort := true, fCrcwarn := true, fCrcrej := true, fRxovf := true, policy := .reject }

/-- Telegram T1 of 95_test_vectors.md section 2.4. -/
def telegram1 : List Byte :=
  [0x52#8, 0x42#8, 0x1A#8, 0x00#8, 0x01#8, 0x22#8, 0x50#8, 0x07#8, 0x28#8, 0x0A#8, 0x10#8, 0x17#8, 0x64#8, 0x00#8, 0x10#8]
    ++ [0xA4#8, 0x0F#8, 0x00#8, 0xA0#8, 0x0F#8, 0x0A#8, 0x00#8, 0x90#8, 0x01#8, 0x10#8, 0x1B#8, 0xF0#8, 0x0A#8, 0x5C#8, 0x05#8]

/-- Telegram T5: T1 with byte 15 corrupted, so that its checksum does not match. -/
def telegram5 : List Byte := telegram1.set 15 0xA5#8

/-- Telegram T6: 24 bytes, the last two both its checksum and the CO2 field. -/
def telegram6 : List Byte :=
  [0x52#8, 0x42#8, 0x14#8, 0x00#8, 0x01#8, 0x22#8, 0x50#8, 0x01#8, 0x2C#8, 0x01#8] ++ List.replicate 12 0x00#8
    ++ [0xC8#8, 0xDD#8]

/-- Telegram T7: the first 23 bytes of T1. -/
def telegram7 : List Byte := telegram1.take 23

/-! ### Well-formedness: one ill-formed line for each check (30_encoding.md R78) -/

theorem test_wf_refuses_operand_on_class_z : (Line.mk .decode (some 0)).wellFormed = false := by decide
theorem test_wf_refuses_missing_operand_b : (Line.mk .rxPush none).wellFormed = false := by decide
theorem test_wf_refuses_missing_operand_i : (Line.mk .frameRd none).wellFormed = false := by decide
theorem test_wf_refuses_missing_operand_p : (Line.mk .policySet none).wellFormed = false := by decide
theorem test_wf_refuses_large_operand_b : (Line.mk .crcFeed (some 256)).wellFormed = false := by decide
theorem test_wf_refuses_large_operand_i : (Line.mk .frameRd (some 256)).wellFormed = false := by decide
theorem test_wf_refuses_large_operand_p : (Line.mk .policySet (some 256)).wellFormed = false := by decide
theorem test_wf_takes_the_largest_operand : (Line.mk .crcFeed (some 255)).wellFormed = true := by decide

/-! ### Decoding: each row's word, bit by bit from 30_encoding.md R71 and R73 -/

theorem test_decode_crcInit : decode 0b0000000100000000#16 = .ok .crcInit := by rfl
theorem test_decode_crcFeed : decode 0b0000001001010010#16 = .ok (.crcFeed 0x52#8) := by rfl
theorem test_decode_crcRead : decode 0b0000001100000000#16 = .ok .crcRead := by rfl
theorem test_decode_frameRd : decode 0b0001000000000111#16 = .ok (.frameRd 0x07#8) := by rfl
theorem test_decode_rxClear : decode 0b0010000000000000#16 = .ok .rxClear := by rfl
theorem test_decode_rxPush : decode 0b0010000111111110#16 = .ok (.rxPush 0xFE#8) := by rfl
theorem test_decode_decode : decode 0b0011000000000000#16 = .ok .decode := by rfl
theorem test_decode_rdCo2 : decode 0b0100000000000000#16 = .ok .rdCo2 := by rfl
theorem test_decode_rdTemp : decode 0b0100000100000000#16 = .ok .rdTemp := by rfl
theorem test_decode_rdReading : decode 0b0100001000000000#16 = .ok .rdReading := by rfl
theorem test_decode_rdHumid : decode 0b0100001100000000#16 = .ok .rdHumid := by rfl
theorem test_decode_policySet : decode 0b0101000010000010#16 = .ok (.policySet 0x82#8) := by rfl
theorem test_decode_statusRd : decode 0b0101000100000000#16 = .ok .statusRd := by rfl
theorem test_decode_flagsClr : decode 0b0101001000000000#16 = .ok .flagsClr := by rfl

/-- V-ENC-1: the all-zero word is an undefined opcode. -/
theorem test_decode_zero_word : decode 0x0000#16 = .error (.undefinedOpcode 0x00#8) := by rfl

/-- V-RX-6: a class-Z opcode with an operand. -/
theorem test_decode_operand_on_class_z : decode 0x2001#16 = .error (.operandOnClassZ .rxClear 0x01#8) := by rfl

theorem test_decodeTableWord_row : decodeTableWord 16 0x21FE = some (.rxPush 0xFE#8) := by rfl

/-! ### Assembler and listing (30_encoding.md R78) -/

/-- The example of R78. -/
theorem test_listing_example : listingLine (.crcFeed 0x52#8) = "0252  CRC.FEED 0x52".toList := by decide +kernel

theorem test_assemble_policy_name : assemble "POLICY.SET REJECT".toList = some 0x5002#16 := by decide +kernel
theorem test_assemble_decimal : assemble "FRAME.RD 9".toList = some 0x1009#16 := by decide +kernel
theorem test_assemble_class_z : assemble "DECODE".toList = some 0x3000#16 := by decide +kernel
theorem test_assemble_refuses_class_z_operand : assemble "CRC.READ 0x00".toList = none := by decide +kernel
theorem test_assemble_refuses_256 : assemble "RX.PUSH 256".toList = none := by decide +kernel
theorem test_assemble_refuses_lower_case : assemble "decode".toList = none := by decide +kernel

/-! ### The CRC functions -/

/-- V-CRC-9: the nine ASCII digits, the value 40_crc.md R107 derives. -/
theorem test_crc16_digits :
    crc16 [0x31#8, 0x32#8, 0x33#8, 0x34#8, 0x35#8, 0x36#8, 0x37#8, 0x38#8, 0x39#8] = 0x4B37#16 := by decide +kernel

/-- V-CRC-10. -/
theorem test_crc16_other_header :
    crc16 [0x52#8, 0x42#8, 0x05#8, 0x00#8, 0x01#8, 0x21#8, 0x50#8] = 0x4BE2#16 := by decide +kernel

/-! ### One command a test -/

/-- V-CRCCMD-1. -/
theorem test_crcInit : (after (exec .crcInit { State.reset with crc := 0x1234#16 })).map State.crc = some 0xFFFF#16 := by
  decide +kernel

/-- V-CRCCMD-2. -/
theorem test_crcFeed : answer (exec (.crcFeed 0x52#8) State.reset) = some ⟨.ok, 0x0000BD3E#32⟩ := by decide +kernel

/-- V-CRCCMD-5. -/
theorem test_crcFeed_accumulates :
    (after (exec (.crcFeed 0xE2#8) { State.reset with crc := 0xBBE2#16 })).map State.crc = some 0x00BB#16 := by
  decide +kernel

/-- V-CRCCMD-7. -/
theorem test_crcRead : answer (exec .crcRead { State.reset with crc := 0xBBE2#16 }) = some ⟨.ok, 0x0000BBE2#32⟩ := by
  decide +kernel

/-- V-FRM-9. -/
theorem test_frameRd_last : answer (exec (.frameRd 0x08#8) State.reset) = some ⟨.ok, 0x000000BB#32⟩ := by decide +kernel

/-- V-FRM-10. -/
theorem test_frameRd_past_the_end : answer (exec (.frameRd 0x09#8) State.reset) = some ⟨.eOperand, 0x00000000#32⟩ := by
  decide +kernel

/-- V-RX-4, from 17 bytes. -/
theorem test_rxClear :
    (after (exec .rxClear (buffered (telegram1.take 17)))).map (fun s => (s.rxLen, s.rx.read 16)) = some (0, 0x0F#8) := by
  decide +kernel

/-- V-RX-2: the 30th push. -/
theorem test_rxPush_last : answer (exec (.rxPush 0x00#8) (buffered (telegram1.take 29))) = some ⟨.ok, 0x0000001E#32⟩ := by
  decide +kernel

/-- V-RX-3: the 31st push. -/
theorem test_rxPush_full :
    (after (exec (.rxPush 0xFF#8) (buffered telegram1))).map (fun s => (s.rx, s.rxLen, s.fRxovf))
      = some ((buffered telegram1).rx, 30, true) := by
  decide +kernel

/-- V-DEC-11: T5 under WARN. -/
theorem test_decode_warns :
    (after (exec .decode (buffered telegram5))).map (fun s => (s.responses, s.fCrcwarn, s.rxLen))
      = some ([⟨.okCrcwarn, 0x01900A28#32⟩], true, 0) := by
  decide +kernel

/-- V-DEC-14: T6 under REJECT. -/
theorem test_decode_shortest_telegram :
    answer (exec .decode { buffered telegram6 with policy := .reject }) = some ⟨.ok, 0xDDC8012C#32⟩ := by
  decide +kernel

/-- V-RES-11. -/
theorem test_rdCo2 : answer (exec .rdCo2 (latched 0xFFFF#16 0x8000#16)) = some ⟨.ok, 0x0000FFFF#32⟩ := by decide +kernel

/-- V-RES-1. -/
theorem test_rdCo2_no_data : answer (exec .rdCo2 State.reset) = some ⟨.eNodata, 0x00000000#32⟩ := by decide +kernel

/-- V-RES-9. -/
theorem test_rdTemp : answer (exec .rdTemp (latched 0x1388#16 0xFF9C#16)) = some ⟨.ok, 0xFFFFFF9C#32⟩ := by
  decide +kernel

/-- V-RES-14. -/
theorem test_rdTemp_positive : answer (exec .rdTemp (latched 0x0000#16 0x7FFF#16)) = some ⟨.ok, 0x00007FFF#32⟩ := by
  decide +kernel

/-- V-RES-10. -/
theorem test_rdReading : answer (exec .rdReading (latched 0x1388#16 0xFF9C#16)) = some ⟨.ok, 0x1388FF9C#32⟩ := by
  decide +kernel

/-- V-RES-8. -/
theorem test_rdHumid :
    answer (exec .rdHumid (latched 0x0190#16 0x0A28#16)) = some ⟨.eUnsupported, 0x00000000#32⟩ := by
  decide +kernel

/-- V-RES-17. -/
theorem test_policySet : (after (exec (.policySet 0x02#8) State.reset)).map State.policy = some .reject := by
  decide +kernel

/-- V-RES-18. -/
theorem test_policySet_three : answer (exec (.policySet 0x03#8) State.reset) = some ⟨.eOperand, 0x00000000#32⟩ := by
  decide +kernel

/-- V-RES-21. -/
theorem test_statusRd : answer (exec .statusRd flagged) = some ⟨.ok, 0x00001E5E#32⟩ := by decide +kernel

/-- V-RES-22. -/
theorem test_statusRd_valid : answer (exec .statusRd { flagged with resValid := true }) = some ⟨.ok, 0x00001E5F#32⟩ := by
  decide +kernel

/-- V-RES-23: STATUS after FLAGS.CLR keeps the policy and the count. -/
theorem test_flagsClr : (after (exec .flagsClr flagged)).map statusView = some 0x00001E40#32 := by decide +kernel

/-! ### The step -/

/-- V-RES-17 through the port: the word presented is the one the next step runs. -/
theorem test_step_runs_the_presented_word :
    after (step (State.reset.withFetchWord 16 0x5002))
      = some { State.reset with policy := .reject, responses := [⟨.ok, 0x00000000#32⟩] } := by
  decide +kernel

/-- V-CRCCMD-8: an illegal word. -/
theorem test_step_illegal_word :
    after (step ({ State.reset with crc := 0x1234#16 }.withFetchWord 16 0x0101))
      = some { State.reset with crc := 0x1234#16, responses := [⟨.eIllegal, 0x00000000#32⟩] } := by
  decide +kernel

/-- 70_reset_and_hazards.md R230 as an event between two commands. -/
theorem test_step_reset_event :
    (after (step { flagged with events := [.reset, .command 0x5100#16] })).map (fun s => (statusView s, s.events))
      = some (0x00000020#32, [.command 0x5100#16]) := by
  decide +kernel

/-! ### Witnesses: for each claim with hypotheses, a state and operands that meet them together -/

/-- A computation that answers gives a next state. -/
theorem exists_next {r : Result State} (h : (after r).isSome = true) : ∃ t, r = .next t := by
  cases r with
  | next s => exact ⟨s, rfl⟩
  | fault e => cases e
  | refused e => cases h

/-- A computation whose answer passes `p` gives a next state that does. -/
theorem exists_next_with {r : Result State} (p : State → Bool) (h : (after r).any p = true) :
    ∃ t, r = .next t ∧ p t = true := by
  cases r with
  | next s => exact ⟨s, rfl, h⟩
  | fault e => cases e
  | refused e => cases h

theorem witness_EncodeOfDecodeIsTheWord : decode 0x10FF#16 = .ok (.frameRd 0xFF#8) := rfl

/-- A row that matches, and one that does not. -/
theorem witness_WordEncodesTheRowItMatches :
    (0x21FF#16 &&& Mnemonic.tableMask .rxPush = Mnemonic.tableMatch .rxPush)
    ∧ (0x2001#16 &&& Mnemonic.tableMask .rxClear ≠ Mnemonic.tableMatch .rxClear) := by decide

/-- A word of each group of R76, and a word of neither. -/
theorem witness_IllegalWordsAnswerIllegalOnly :
    mnemonicOfOp (wordOp 0x53FF#16) = none
    ∧ (wordOp 0x52FF#16 = 0x52#8 ∧ wordImm8 0x52FF#16 ≠ 0x00#8)
    ∧ (wordOp 0x0100#16 = 0x01#8 ∧ wordImm8 0x0100#16 = 0x00#8) := by decide

/-- The operand boundary, and a row of each kind. -/
theorem witness_AssemblerTakesExactlyTheLegalOperands :
    255 < 256 ∧ Mnemonic.operandClass .decode = .z ∧ (Mnemonic.operandClass .policySet ≠ .z ∧ 255 ≤ 255) := by decide

/-- A non-zero operand, the hypothesis of every class-Z claim's second clause. -/
theorem witness_ClassZOperand : (0x01#8 : Byte) ≠ 0x00#8 := by decide

/-- The reset register holds the code of the empty sequence. -/
theorem witness_CrcFeedFoldsOneByte : State.reset.crc = crc16 [] := rfl

theorem witness_FrameIsTheHeaderAndItsCode :
    (∃ t, exec (.frameRd 0x08#8) State.reset = .next t) ∧ ∃ t, exec (.frameRd 0x09#8) State.reset = .next t :=
  ⟨exists_next (by decide +kernel), exists_next (by decide +kernel)⟩

/-- The last index and the first out of range. -/
theorem witness_FrameRdAnswersAByteOrOperandError : (0x08#8 : Byte).toNat ≤ 8 ∧ 8 < (0x09#8 : Byte).toNat := by decide

/-- A full buffer, and one with 29 canonical bytes. -/
theorem witness_RxPushAppendsOrReportsFull :
    (buffered telegram1).rxLen.val = 30
    ∧ ((buffered (telegram1.take 29)).rxLen.val < 30 ∧ (buffered (telegram1.take 29)).rx.wf = true) := by decide +kernel

/-- One state for each outcome of DECODE: 23 bytes; ACCEPT; a match under REJECT; a mismatch under WARN and under
REJECT. -/
theorem witness_DecodeOutcomes :
    (buffered telegram7).rxLen.val = 23
    ∧ (24 ≤ (buffered telegram5).rxLen.val ∧ ¬ (buffered telegram5).checksumMatches)
    ∧ ((buffered telegram6).rxLen.val = 24 ∧ (buffered telegram6).checksumMatches) := by decide +kernel

/-- A reading is stored under WARN without a match, and with one under REJECT, at 24 bytes. -/
theorem witness_StoredReadingIsWhatTheBytesSay :
    (24 ≤ (buffered telegram5).rxLen.val ∧ (buffered telegram5).policy ≠ .reject)
    ∧ (24 ≤ (buffered telegram6).rxLen.val ∧ (buffered telegram6).checksumMatches) := by decide +kernel

/-- The last accepted operand and the first refused. -/
theorem witness_PolicySetSelectsOrRefuses : (0x02#8 : Byte).toNat ≤ 2 ∧ 2 < (0x03#8 : Byte).toNat := by decide

/-- One of the seven. -/
theorem witness_ReadCommandsWriteNothing :
    let i : Instr := .frameRd 0x09#8
    i = .crcRead ∨ (∃ k, i = .frameRd k) ∨ i = .rdCo2 ∨ i = .rdTemp ∨ i = .rdReading ∨ i = .rdHumid ∨ i = .statusRd :=
  .inr (.inl ⟨0x09#8, rfl⟩)

/-- DECODE of a telegram is neither CRC.FEED nor CRC.READ, and gives a next state. -/
theorem witness_CrcBelongsToTheCrcCommands :
    (Instr.decode ≠ .crcRead ∧ (∀ b, Instr.decode ≠ .crcFeed b))
    ∧ (∃ t, exec .decode (buffered telegram1) = .next t)
    ∧ ∃ t, exec (.crcFeed 0x52#8) State.reset = .next t :=
  ⟨⟨by decide, fun b h => by cases h⟩, exists_next (by decide +kernel), exists_next (by decide +kernel)⟩

/-- RX.PUSH at 29 and at 30 bytes, RX.CLEAR and DECODE. -/
theorem witness_RxLenChangesAsStated :
    (∃ t, exec (.rxPush 0x05#8) (buffered (telegram1.take 29)) = .next t)
    ∧ (∃ t, exec (.rxPush 0x05#8) (buffered telegram1) = .next t)
    ∧ (∃ t, exec .rxClear (buffered telegram1) = .next t)
    ∧ ∃ t, exec .decode (buffered telegram1) = .next t :=
  ⟨exists_next (by decide +kernel), exists_next (by decide +kernel), exists_next (by decide +kernel),
    exists_next (by decide +kernel)⟩

/-- A push at 29 bytes, seen from byte 28. -/
theorem witness_BufferBytesChangeOnlyByPush :
    (∃ t, exec (.rxPush 0x05#8) (buffered (telegram1.take 29)) = .next t)
    ∧ (28 : Nat) ≠ (buffered (telegram1.take 29)).rxLen.val :=
  ⟨exists_next (by decide +kernel), by decide +kernel⟩

/-- A committing DECODE; a reader with nothing held; and a reader with a reading held. -/
theorem witness_LatchIsWrittenWholeByDecode :
    (∃ t, exec .decode (buffered telegram6) = .next t ∧ t.resValid = true)
    ∧ State.reset.resValid = false
    ∧ ((latched 0xFFFF#16 0x8000#16).resValid = true ∧ ∃ t, exec .rdCo2 (latched 0xFFFF#16 0x8000#16) = .next t) :=
  ⟨exists_next_with State.resValid (by decide +kernel), rfl, rfl, exists_next (by decide +kernel)⟩

/-- Each flag set by its condition, a reset event waiting, and a command that is not STATUS.RD under other flags. -/
theorem witness_FlagsAreStickyAsTabled :
    ((after (exec .decode (buffered telegram7))).map State.fShort = some true
      ∧ (after (exec .decode (buffered telegram5))).map State.fCrcwarn = some true
      ∧ (after (exec .decode { buffered telegram5 with policy := .reject })).map State.fCrcrej = some true
      ∧ (after (exec (.rxPush 0x00#8) (buffered telegram1))).map State.fRxovf = some true)
    ∧ { flagged with events := [.reset] }.events = .reset :: []
    ∧ (Instr.rdHumid ≠ .statusRd ∧ (∃ t, exec .rdHumid State.reset = .next t)
      ∧ ∃ t, exec .rdHumid
        { State.reset with fShort := true, fCrcwarn := true, fCrcrej := true, fRxovf := true } = .next t) :=
  ⟨by decide +kernel, rfl, by decide, ⟨_, rfl⟩, ⟨_, rfl⟩⟩

theorem witness_PolicyChangesOnlyByPolicySet :
    (∃ t, exec (.policySet 0x02#8) State.reset = .next t ∧ t.policy = .reject)
    ∧ ∃ t, exec (.policySet 0x03#8) State.reset = .next t ∧ t.policy = .warn :=
  ⟨⟨_, rfl, rfl⟩, ⟨_, rfl, rfl⟩⟩

/-- A word that is rejected, and a command for each failure. -/
theorem witness_FailuresArePrecise :
    (∃ r, decode 0x0101#16 = .error r)
    ∧ [answer (exec (.frameRd 0x09#8) State.reset), answer (exec .rdTemp State.reset), answer (exec .rdHumid State.reset),
        answer (exec (.rxPush 0x00#8) (buffered telegram1)), answer (exec .decode (buffered telegram7)),
        answer (exec .decode { buffered telegram5 with policy := .reject })].map (fun a => a.map Response.status)
      = [some .eOperand, some .eNodata, some .eUnsupported, some .eRxfull, some .eShort, some .eChecksum] :=
  ⟨⟨_, rfl⟩, by decide +kernel⟩

/-- A failure, and a reading stored with a warning. -/
theorem witness_FailureAnswersCarryNoData :
    (answer (stepWord 0x0101#16 State.reset)).map Response.status = some .eIllegal
    ∧ (answer (stepWord 0x3000#16 (buffered telegram5))).map Response.status = some .okCrcwarn := by decide +kernel

/-- Two reads, an idempotent command, and DECODE, each with its next state. -/
theorem witness_IdempotencyByCommandClass :
    let read (i : Instr) : Prop :=
      i = .crcRead ∨ (∃ k, i = .frameRd k) ∨ i = .rdCo2 ∨ i = .rdTemp ∨ i = .rdReading ∨ i = .rdHumid ∨ i = .statusRd
    (read (.frameRd 0x08#8) ∧ read .statusRd)
    ∧ (∃ t, exec (.policySet 0x02#8) State.reset = .next t)
    ∧ ∃ t, exec .decode (buffered telegram6) = .next t :=
  ⟨⟨.inr (.inl ⟨0x08#8, rfl⟩), by simp⟩, exists_next (by decide +kernel), exists_next (by decide +kernel)⟩

theorem witness_SnapshotIsThePairOfReads : (latched 0xFFFF#16 0x8000#16).resValid = true := rfl

/-- A word that decodes, and one of each group that does not. -/
theorem witness_StepRunsTheDecodedCommand :
    let s (w : Word) : State := { flagged with events := [.command w, .reset] }
    (∀ w, (s w).events = .command w :: [.reset])
    ∧ decode 0x50FF#16 = .ok (.policySet 0xFF#8)
    ∧ decode 0x53FF#16 = .error (.undefinedOpcode 0x53#8)
    ∧ decode 0x5201#16 = .error (.operandOnClassZ .flagsClr 0x01#8) :=
  ⟨fun _ => rfl, rfl, rfl, rfl⟩

/-- A command word that decodes to nothing, before a reset. -/
theorem witness_CommandStepAnswersOnce :
    { State.reset with events := [.command 0x0000#16, .reset] }.events = .command 0x0000#16 :: [.reset] := rfl

theorem witness_ResetEventRestoresTheResetValues :
    { flagged with events := [.reset, .command 0x5100#16] }.events = .reset :: [.command 0x5100#16] := rfl

/-- A step from a state with bytes and a failure answered. -/
theorem witness_StepKeepsTheInvariant :
    let s : State := { buffered telegram1 with
      events := [.command 0x21FF#16], responses := [⟨.eNodata, 0x00000000#32⟩] }
    s.Inv ∧ ∃ t, step s = .next t :=
  ⟨by decide +kernel, exists_next (by decide +kernel)⟩

/-- Two states that differ in a stale byte and in the pair of an empty latch. -/
theorem witness_UnspecifiedContentsAreNeverObserved :
    let s : State := { buffered (telegram1.take 23) with events := [.command 0x2100#16, .command 0x3000#16] }
    let t : State := { s with rx := s.rx.write 23 0x01#8, resCo2 := 0xFFFF#16, resTemp := 0x8000#16 }
    s.rx.wf = true ∧ t.rx.wf = true ∧ s.Indistinguishable t ∧ s ≠ t := by
  refine ⟨by decide +kernel, by decide +kernel, ?_, by decide +kernel⟩
  exact ⟨rfl, rfl, fun i hi => (Memory.read_write_other _ _ (ne_of_lt (by simpa using hi))).symm, rfl, fun h => absurd h (by decide), rfl, rfl, rfl,
    rfl, rfl, rfl, rfl⟩

/-- Two bytes to feed, with a reset waiting behind. -/
theorem witness_CrcCommandsComputeTheCode :
    let bs := [0x52#8, 0x42#8]
    let s : State := { State.reset with events := presented (.crcInit :: bs.map .crcFeed ++ [.crcRead]) ++ [.reset] }
    s.events = presented (.crcInit :: bs.map .crcFeed ++ [.crcRead]) ++ [.reset] := rfl

theorem witness_FrameCommandsEmitTheFrame :
    let s : State := { flagged with
      events := presented ((List.range 9).map fun k => .frameRd (BitVec.ofNat 8 k)) ++ [.reset] }
    s.events = presented ((List.range 9).map fun k => .frameRd (BitVec.ofNat 8 k)) ++ [.reset] := rfl

/-- 31 bytes to push over a canonical buffer. -/
theorem witness_BufferHoldsTheFirstThirtyBytes :
    let bs := telegram1 ++ [0xFF#8]
    let s : State := { buffered telegram5 with events := presented (.rxClear :: bs.map .rxPush) ++ [.reset] }
    30 < bs.length ∧ s.rx.wf = true ∧ s.events = presented (.rxClear :: bs.map .rxPush) ++ [.reset] :=
  ⟨by decide, by decide +kernel, rfl⟩

/-- Telegrams of 24 and of 30 bytes: a match and a mismatch, under each policy that tells them apart. -/
theorem witness_PushedTelegramIsDecoded :
    let s (bs : List Byte) (p : Policy) : State := { buffered telegram1 with
      policy := p, events := presented (.rxClear :: bs.map .rxPush ++ [.decode]) ++ [.reset] }
    (∀ bs p, (s bs p).rx.wf = true ∧ (s bs p).policy = p
      ∧ (s bs p).events = presented (.rxClear :: bs.map .rxPush ++ [.decode]) ++ [.reset])
    ∧ (telegram6.length = 24
      ∧ crc16 (telegram6.take 22) = telegram6.getD 23 0x00#8 ++ telegram6.getD 22 0x00#8)
    ∧ (telegram5.length = 30
      ∧ crc16 (telegram5.take 28) ≠ telegram5.getD 29 0x00#8 ++ telegram5.getD 28 0x00#8) :=
  ⟨fun _ _ => ⟨(by decide +kernel : (buffered telegram1).rx.wf = true), rfl, rfl⟩, by decide +kernel, by decide +kernel⟩

end Sys2Proof.Tests
end

/-! ## What a command can do: its writes and its answer

`Performs s i u r` says once what the model's command rules say: run from `s`, the command `i` makes the writes that
lead to `u`, and answers `r`. `exec_eq_next_iff` ties it to `exec`; every fact about all the commands is then a case
analysis over its constructors. -/

section

namespace Sys2Proof.Machine

/-- The writes and the answer of each command, one constructor for each way it can end (40_crc.md R104 to R106,
41_frame.md R121, 42_receive_decode.md R130 to R133, 43_results_control.md R160 to R167). -/
inductive Performs (s : State) : Instr → State → Response → Prop where
  | crcInit : Performs s .crcInit (s.setCrc Config.crcInit) ⟨.ok, 0x00000000#32⟩
  | crcFeed (b : Byte) :
      Performs s (.crcFeed b) (s.setCrc (crcByte s.crc b)) ⟨.ok, zext32 (crcByte s.crc b)⟩
  | crcRead : Performs s .crcRead s ⟨.ok, zext32 s.crc⟩
  | frameRd {i : Byte} {k : Fin 9} (index : frameIndex i = some k) :
      Performs s (.frameRd i) s ⟨.ok, zext32 (frameRead k)⟩
  | frameRdRefused {i : Byte} (index : frameIndex i = none) :
      Performs s (.frameRd i) s ⟨.eOperand, 0x00000000#32⟩
  | rxClear : Performs s .rxClear (s.setRxLen 0) ⟨.ok, 0x00000000#32⟩
  | rxPush (b : Byte) (room : s.rxLen ≠ 30) :
      Performs s (.rxPush b) ((s.rxWrite s.rxLen.val b).setRxLen (s.rxLen + 1))
        ⟨.ok, BitVec.ofNat 32 (s.rxLen + 1).val⟩
  | rxPushFull (b : Byte) (full : s.rxLen = 30) :
      Performs s (.rxPush b) s.setRxovf ⟨.eRxfull, 0x00000000#32⟩
  | decodeShort (short : s.rxLen.val < 24) :
      Performs s .decode (s.setRxLen 0).setShort ⟨.eShort, 0x00000000#32⟩
  | decodeStored (long : 24 ≤ s.rxLen.val) (stored : s.policy = .accept ∨ s.checksumMatches) :
      Performs s .decode ((s.setRxLen 0).commit s.co2Field s.tempField) ⟨.ok, s.co2Field ++ s.tempField⟩
  | decodeWarned (long : 24 ≤ s.rxLen.val) (policy : s.policy = .warn) (mismatch : ¬ s.checksumMatches) :
      Performs s .decode ((s.setRxLen 0).commit s.co2Field s.tempField).setCrcwarn
        ⟨.okCrcwarn, s.co2Field ++ s.tempField⟩
  | decodeRejected (long : 24 ≤ s.rxLen.val) (policy : s.policy = .reject) (mismatch : ¬ s.checksumMatches) :
      Performs s .decode (s.setRxLen 0).setCrcrej ⟨.eChecksum, 0x00000000#32⟩
  | rdCo2 (held : s.resValid = true) : Performs s .rdCo2 s ⟨.ok, zext32 s.resCo2⟩
  | rdCo2Empty (empty : s.resValid = false) : Performs s .rdCo2 s ⟨.eNodata, 0x00000000#32⟩
  | rdTemp (held : s.resValid = true) : Performs s .rdTemp s ⟨.ok, sext32 s.resTemp⟩
  | rdTempEmpty (empty : s.resValid = false) : Performs s .rdTemp s ⟨.eNodata, 0x00000000#32⟩
  | rdReading (held : s.resValid = true) : Performs s .rdReading s ⟨.ok, s.resCo2 ++ s.resTemp⟩
  | rdReadingEmpty (empty : s.resValid = false) : Performs s .rdReading s ⟨.eNodata, 0x00000000#32⟩
  | rdHumid : Performs s .rdHumid s ⟨.eUnsupported, 0x00000000#32⟩
  | policySet {p : Byte} {q : Policy} (operand : policyOperand p = some q) :
      Performs s (.policySet p) (s.setPolicy q) ⟨.ok, 0x00000000#32⟩
  | policySetRefused {p : Byte} (operand : policyOperand p = none) :
      Performs s (.policySet p) s ⟨.eOperand, 0x00000000#32⟩
  | statusRd : Performs s .statusRd s ⟨.ok, statusView s⟩
  | flagsClr : Performs s .flagsClr s.clearFlags ⟨.ok, 0x00000000#32⟩

/-- A buffer that is not full has room for one byte more (10_state.md R24). -/
theorem rxLen_lt_thirty {n : Fin 31} (h : n ≠ 30) : n.val < 30 := by
  have hne : n.val ≠ 30 := mt rxLen_eq_thirty.2 h
  omega

/-- The model's checksum test is the one written out in `State.checksumMatches` (42_receive_decode.md R139). -/
theorem State.rxCrcOk_iff (s : State) : s.rxCrcOk s.rxLen.val = true ↔ s.checksumMatches := beq_iff_eq

/-- What DECODE does to a telegram that is long enough, by policy and checksum (R133). -/
theorem execDecode_of_long {s : State} (h : 24 ≤ s.rxLen.val) :
    execDecode s =
      if s.policy = .accept ∨ s.checksumMatches then
        respond .ok (s.co2Field ++ s.tempField) ((s.setRxLen 0).commit s.co2Field s.tempField)
      else if s.policy = .warn then
        respond .okCrcwarn (s.co2Field ++ s.tempField) ((s.setRxLen 0).commit s.co2Field s.tempField).setCrcwarn
      else raise .eChecksum (s.setRxLen 0).setCrcrej := by
  have hlen : ¬ s.rxLen.val < Config.decodeMin := Nat.not_lt.2 h
  have hcrc : (s.setRxLen 0).rxCrcOk s.rxLen.val = true ↔ s.checksumMatches := s.rxCrcOk_iff
  simp only [execDecode, if_neg hlen, hcrc, State.setRxLen_policy]
  by_cases ha : s.policy = .accept
  · simp only [ha, true_or, if_true]; rfl
  · simp only [ha, false_or, if_false]; rfl

/-- A performed command is what `exec` answers. -/
theorem Performs.exec_eq {s u : State} {i : Instr} {r : Response} (h : Performs s i u r) :
    exec i s = .next (u.respond r.status r.data) := by
  cases h with
  | frameRd index | frameRdRefused index => simp only [exec, execFrameRd, index]; rfl
  | rxPush b room => simp only [exec, execRxPush, if_neg room]; rfl
  | rxPushFull b full => simp only [exec, execRxPush, if_pos full]; rfl
  | decodeShort short => exact if_pos short
  | decodeStored long stored => exact (execDecode_of_long long).trans (if_pos stored)
  | decodeWarned long policy mismatch | decodeRejected long policy mismatch =>
    simp only [exec, execDecode_of_long long, policy, mismatch]; rfl
  | rdCo2 held | rdTemp held | rdReading held => exact if_pos held
  | rdCo2Empty empty | rdTempEmpty empty | rdReadingEmpty empty => exact if_neg (by simp [empty])
  | policySet operand | policySetRefused operand => simp only [exec, execPolicySet, operand]; rfl
  | crcInit | crcFeed | crcRead | rxClear | rdHumid | statusRd | flagsClr => rfl

/-- DECODE ends in one of the four ways of R133. -/
theorem exists_performs_decode (s : State) : ∃ u r, Performs s .decode u r := by
  rcases Nat.lt_or_ge s.rxLen.val 24 with hlen | hlen
  · exact ⟨_, _, .decodeShort hlen⟩
  by_cases hcrc : s.checksumMatches
  · exact ⟨_, _, .decodeStored hlen (.inr hcrc)⟩
  cases hp : s.policy with
  | accept => exact ⟨_, _, .decodeStored hlen (.inl hp)⟩
  | warn => exact ⟨_, _, .decodeWarned hlen hp hcrc⟩
  | reject => exact ⟨_, _, .decodeRejected hlen hp hcrc⟩

/-- Every command completes in every state (60_exceptions.md R212). -/
theorem exists_performs (i : Instr) (s : State) : ∃ u r, Performs s i u r := by
  cases i with
  | crcInit => exact ⟨_, _, .crcInit⟩
  | crcFeed b => exact ⟨_, _, .crcFeed b⟩
  | crcRead => exact ⟨_, _, .crcRead⟩
  | frameRd k =>
    cases hk : frameIndex k with
    | none => exact ⟨_, _, .frameRdRefused hk⟩
    | some _ => exact ⟨_, _, .frameRd hk⟩
  | rxClear => exact ⟨_, _, .rxClear⟩
  | rxPush b =>
    by_cases hfull : s.rxLen = 30
    · exact ⟨_, _, .rxPushFull b hfull⟩
    · exact ⟨_, _, .rxPush b hfull⟩
  | decode => exact exists_performs_decode s
  | rdCo2 =>
    cases hv : s.resValid with
    | true => exact ⟨_, _, .rdCo2 hv⟩
    | false => exact ⟨_, _, .rdCo2Empty hv⟩
  | rdTemp =>
    cases hv : s.resValid with
    | true => exact ⟨_, _, .rdTemp hv⟩
    | false => exact ⟨_, _, .rdTempEmpty hv⟩
  | rdReading =>
    cases hv : s.resValid with
    | true => exact ⟨_, _, .rdReading hv⟩
    | false => exact ⟨_, _, .rdReadingEmpty hv⟩
  | rdHumid => exact ⟨_, _, .rdHumid⟩
  | policySet p =>
    cases hp : policyOperand p with
    | none => exact ⟨_, _, .policySetRefused hp⟩
    | some _ => exact ⟨_, _, .policySet hp⟩
  | statusRd => exact ⟨_, _, .statusRd⟩
  | flagsClr => exact ⟨_, _, .flagsClr⟩

/-- The next state of a command is what it wrote, with its answer added; and nothing else is a next state of it. -/
theorem exec_eq_next_iff {i : Instr} {s t : State} :
    exec i s = .next t ↔ ∃ u r, Performs s i u r ∧ t = u.respond r.status r.data := by
  constructor
  · intro h
    obtain ⟨u, r, hp⟩ := exists_performs i s
    exact ⟨u, r, hp, Host.Outcome.next.inj (h.symm.trans hp.exec_eq)⟩
  · rintro ⟨u, r, hp, rfl⟩
    exact hp.exec_eq

end Sys2Proof.Machine

end

/-! ## One step by the event it takes -/

section

namespace Sys2Proof.Machine

/-- With nothing presented a step leaves the state as it is (log entry 3). -/
theorem step_of_nil {s : State} (h : s.events = []) : step s = .next s := by
  rw [step, takeEvent_nil h]; rfl

/-- A reset event resets the block (70_reset_and_hazards.md R230). -/
theorem step_of_reset {s : State} {rest : List Event} (h : s.events = .reset :: rest) :
    step s = .next (s.setEvents rest).resetEvent := by
  rw [step, takeEvent_cons h]

/-- A command word is stepped with the event taken from the port. -/
theorem step_of_command {s : State} {w : Word} {rest : List Event} (h : s.events = .command w :: rest) :
    step s = stepWord w (s.setEvents rest) := by
  rw [step, takeEvent_cons h]

/-- A word that names a command runs it. -/
theorem stepWord_of_ok {w : Word} {i : Instr} (h : decode w = .ok i) (s : State) : stepWord w s = exec i s := by
  simp only [stepWord, h]

/-- Any other word answers E_ILLEGAL (30_encoding.md R75). -/
theorem stepWord_of_error {w : Word} {e : DecodeReject} (h : decode w = .error e) (s : State) :
    stepWord w s = .next (s.respond .eIllegal 0x00000000#32) := by
  simp only [stepWord, h]; rfl

end Sys2Proof.Machine

end

/-! ## The unspecified contents are never observed

Two states in the relation `State.Twins` stay in it under every write of the model and give every command the same
answer; so under one step, and so along a run (10_state.md R25, R28). -/

section

namespace Sys2Proof.Machine

/-- Two canonical buffers, and states no command can tell apart: what a run keeps of two states. -/
structure State.Twins (s t : State) : Prop where
  wf_left : s.rx.wf = true
  wf_right : t.rx.wf = true
  alike : s.Indistinguishable t

/-! ### Every write keeps two states indistinguishable -/

namespace State.Indistinguishable

variable {s t : State} (h : s.Indistinguishable t)
include h

theorem respond (st : Status) (d : Data) : (s.respond st d).Indistinguishable (t.respond st d) :=
  { h with responses := by simp only [State.respond, h.responses] }

theorem setCrc (v : Word) : (s.setCrc v).Indistinguishable (t.setCrc v) := { h with crc := rfl }

theorem setPolicy (p : Policy) : (s.setPolicy p).Indistinguishable (t.setPolicy p) := { h with policy := rfl }

theorem setShort : s.setShort.Indistinguishable t.setShort := { h with fShort := rfl }

theorem setCrcwarn : s.setCrcwarn.Indistinguishable t.setCrcwarn := { h with fCrcwarn := rfl }

theorem setCrcrej : s.setCrcrej.Indistinguishable t.setCrcrej := { h with fCrcrej := rfl }

theorem setRxovf : s.setRxovf.Indistinguishable t.setRxovf := { h with fRxovf := rfl }

theorem clearFlags : s.clearFlags.Indistinguishable t.clearFlags :=
  { h with fShort := rfl, fCrcwarn := rfl, fCrcrej := rfl, fRxovf := rfl }

/-- A committed reading makes the latch agree, whatever it held. -/
theorem commit (co2 temp : Word) : (s.commit co2 temp).Indistinguishable (t.commit co2 temp) :=
  { h with resValid := rfl, latch := fun _ => ⟨rfl, rfl⟩ }

/-- An emptied buffer has stale bytes only. -/
theorem setRxLen_zero : (s.setRxLen 0).Indistinguishable (t.setRxLen 0) :=
  { h with rxLen := rfl, rx := fun _ hi => absurd hi (Nat.not_lt_zero _) }

theorem setEvents (es : List Event) : (s.setEvents es).Indistinguishable (t.setEvents es) := { h with events := rfl }

/-- After a reset event nothing of the block is left from before. -/
theorem resetEvent : s.resetEvent.Indistinguishable t.resetEvent where
  crc := rfl
  rxLen := rfl
  rx _ _ := rfl
  resValid := rfl
  latch _ := ⟨rfl, rfl⟩
  fShort := rfl
  fCrcwarn := rfl
  fCrcrej := rfl
  fRxovf := rfl
  policy := rfl
  events := h.events
  responses := h.responses

/-! ### What the commands read agrees -/

theorem rx_read {a : Nat} (ha : a < s.rxLen.val) : t.rx.read a = s.rx.read a := (h.rx a ha).symm

theorem co2Field (hlen : 24 ≤ s.rxLen.val) : t.co2Field = s.co2Field := by
  simp only [State.co2Field, State.rxRead, Config.co2Hi, Config.co2Lo]
  rw [h.rx_read (by omega), h.rx_read (by omega)]

theorem tempField (hlen : 24 ≤ s.rxLen.val) : t.tempField = s.tempField := by
  simp only [State.tempField, State.rxRead, Config.tempHi, Config.tempLo]
  rw [h.rx_read (by omega), h.rx_read (by omega)]

theorem checksumMatches_iff (hlen : 24 ≤ s.rxLen.val) : t.checksumMatches ↔ s.checksumMatches := by
  have hbytes : (List.range (s.rxLen.val - 2)).map t.rx.read = (List.range (s.rxLen.val - 2)).map s.rx.read :=
    List.map_congr_left fun a ha => h.rx_read (by have := List.mem_range.1 ha; omega)
  rw [State.checksumMatches, ← h.rxLen, hbytes, h.rx_read (by omega), h.rx_read (by omega)]

theorem statusView_eq : statusView t = statusView s := by
  simp only [statusView, h.rxLen, h.policy, h.fRxovf, h.fCrcrej, h.fCrcwarn, h.fShort, h.resValid]

end State.Indistinguishable

/-- A pushed byte is a valid byte of both buffers, and no other byte becomes one. -/
theorem State.Twins.rxPush {s t : State} (h : s.Twins t) (b : Byte) (room : s.rxLen ≠ 30) :
    ((s.rxWrite s.rxLen.val b).setRxLen (s.rxLen + 1)).Indistinguishable
      ((t.rxWrite t.rxLen.val b).setRxLen (t.rxLen + 1)) where
  __ := h.alike
  rxLen := by simp [h.alike.rxLen]
  rx a ha := by
    rw [State.setRxLen_rxLen, rxLen_succ room] at ha
    simp only [State.setRxLen_rx, State.rxWrite_rx, ← h.alike.rxLen]
    rcases Nat.lt_succ_iff_lt_or_eq.1 ha with hold | rfl
    · rw [Memory.read_write_other _ _ hold.ne, Memory.read_write_other _ _ hold.ne, h.alike.rx a hold]
    · rw [Memory.read_write_same b h.wf_left, Memory.read_write_same b h.wf_right]

/-! ### Commands -/

/-- Every command keeps the receive space in its canonical form. -/
theorem Performs.rx_wf {s u : State} {i : Instr} {r : Response} (h : Performs s i u r) (hwf : s.rx.wf = true) :
    u.rx.wf = true := by
  cases h with
  | rxPush b room => exact Memory.wf_write b hwf (rxLen_lt_thirty room)
  | _ => exact hwf

/-- States that cannot be told apart give a command the same answer and still cannot be told apart. -/
theorem Performs.of_twins {s t u : State} {i : Instr} {r : Response} (hp : Performs s i u r) (h : s.Twins t) :
    ∃ u', Performs t i u' r ∧ u.Indistinguishable u' := by
  have ha := h.alike
  cases hp with
  | crcInit => exact ⟨_, .crcInit, ha.setCrc _⟩
  | crcFeed b => rw [ha.crc]; exact ⟨_, .crcFeed b, ha.setCrc _⟩
  | crcRead => rw [ha.crc]; exact ⟨_, .crcRead, ha⟩
  | frameRd index => exact ⟨_, .frameRd index, ha⟩
  | frameRdRefused index => exact ⟨_, .frameRdRefused index, ha⟩
  | rxClear => exact ⟨_, .rxClear, ha.setRxLen_zero⟩
  | rxPush b room =>
    have hanswer : (s.rxLen + 1).val = (t.rxLen + 1).val := by rw [ha.rxLen]
    rw [hanswer]
    exact ⟨_, .rxPush b (ha.rxLen ▸ room), h.rxPush b room⟩
  | rxPushFull b full => exact ⟨_, .rxPushFull b (ha.rxLen ▸ full), ha.setRxovf⟩
  | decodeShort short => exact ⟨_, .decodeShort (ha.rxLen ▸ short), ha.setRxLen_zero.setShort⟩
  | decodeStored long stored =>
    rw [← ha.co2Field long, ← ha.tempField long]
    rw [ha.policy, ← ha.checksumMatches_iff long] at stored
    exact ⟨_, .decodeStored (ha.rxLen ▸ long) stored, ha.setRxLen_zero.commit _ _⟩
  | decodeWarned long policy mismatch =>
    rw [← ha.co2Field long, ← ha.tempField long]
    rw [ha.policy] at policy
    rw [← ha.checksumMatches_iff long] at mismatch
    exact ⟨_, .decodeWarned (ha.rxLen ▸ long) policy mismatch, (ha.setRxLen_zero.commit _ _).setCrcwarn⟩
  | decodeRejected long policy mismatch =>
    rw [ha.policy] at policy
    rw [← ha.checksumMatches_iff long] at mismatch
    exact ⟨_, .decodeRejected (ha.rxLen ▸ long) policy mismatch, ha.setRxLen_zero.setCrcrej⟩
  | rdCo2 held => rw [(ha.latch held).1]; exact ⟨_, .rdCo2 (ha.resValid ▸ held), ha⟩
  | rdCo2Empty empty => exact ⟨_, .rdCo2Empty (ha.resValid ▸ empty), ha⟩
  | rdTemp held => rw [(ha.latch held).2]; exact ⟨_, .rdTemp (ha.resValid ▸ held), ha⟩
  | rdTempEmpty empty => exact ⟨_, .rdTempEmpty (ha.resValid ▸ empty), ha⟩
  | rdReading held =>
    obtain ⟨hco2, htemp⟩ := ha.latch held
    rw [hco2, htemp]
    exact ⟨_, .rdReading (ha.resValid ▸ held), ha⟩
  | rdReadingEmpty empty => exact ⟨_, .rdReadingEmpty (ha.resValid ▸ empty), ha⟩
  | rdHumid => exact ⟨_, .rdHumid, ha⟩
  | policySet operand => exact ⟨_, .policySet operand, ha.setPolicy _⟩
  | policySetRefused operand => exact ⟨_, .policySetRefused operand, ha⟩
  | statusRd => rw [← ha.statusView_eq]; exact ⟨_, .statusRd, ha⟩
  | flagsClr => exact ⟨_, .flagsClr, ha.clearFlags⟩

/-! ### Steps and runs -/

/-- Two computations that both give a next state, and next states that are twins. -/
def NextTwins (r q : Result State) : Prop := ∃ s t, r = .next s ∧ q = .next t ∧ s.Twins t

theorem State.Twins.respond {s t : State} (h : s.Twins t) (st : Status) (d : Data) :
    (s.respond st d).Twins (t.respond st d) :=
  ⟨h.wf_left, h.wf_right, h.alike.respond st d⟩

theorem State.Twins.setEvents {s t : State} (h : s.Twins t) (es : List Event) :
    (s.setEvents es).Twins (t.setEvents es) :=
  ⟨h.wf_left, h.wf_right, h.alike.setEvents es⟩

theorem exec_nextTwins (i : Instr) {s t : State} (h : s.Twins t) : NextTwins (exec i s) (exec i t) := by
  obtain ⟨u, r, hp⟩ := exists_performs i s
  obtain ⟨u', hp', halike⟩ := hp.of_twins h
  have htwins : u.Twins u' := ⟨hp.rx_wf h.wf_left, hp'.rx_wf h.wf_right, halike⟩
  exact ⟨_, _, hp.exec_eq, hp'.exec_eq, htwins.respond r.status r.data⟩

theorem stepWord_nextTwins (w : Word) {s t : State} (h : s.Twins t) : NextTwins (stepWord w s) (stepWord w t) := by
  cases hw : decode w with
  | ok i => rw [stepWord_of_ok hw, stepWord_of_ok hw]; exact exec_nextTwins i h
  | error e => exact ⟨_, _, stepWord_of_error hw s, stepWord_of_error hw t, h.respond _ _⟩

theorem step_nextTwins {s t : State} (h : s.Twins t) : NextTwins (step s) (step t) := by
  cases hs : s.events with
  | nil => exact ⟨s, t, step_of_nil hs, step_of_nil (h.alike.events ▸ hs), h⟩
  | cons e rest =>
    have ht : t.events = e :: rest := h.alike.events ▸ hs
    have htaken := h.setEvents rest
    cases e with
    | command w => rw [step_of_command hs, step_of_command ht]; exact stepWord_nextTwins w htaken
    | reset =>
      exact ⟨_, _, step_of_reset hs, step_of_reset ht, Memory.wf_reset, Memory.wf_reset, htaken.alike.resetEvent⟩

theorem runEvents_nextTwins (k : Nat) {s t : State} (h : s.Twins t) : NextTwins (runEvents k s) (runEvents k t) := by
  induction k generalizing s t with
  | zero => exact ⟨s, t, rfl, rfl, h⟩
  | succ k ih =>
    obtain ⟨s₁, t₁, hs, ht, h₁⟩ := step_nextTwins h
    rw [runEvents_succ k hs, runEvents_succ k ht]
    exact ih h₁

/-- Settles O51: twins stay twins along every run, by induction on its length. -/
theorem unspecifiedContentsAreNeverObserved : Obligations.UnspecifiedContentsAreNeverObserved := by
  intro k s t hs ht halike
  obtain ⟨s', t', hs', ht', htwins⟩ := runEvents_nextTwins k ⟨hs, ht, halike⟩
  exact ⟨s', t', hs', ht', htwins.alike⟩

end Sys2Proof.Machine

end

/-! ## Who writes and who reads each element of the state -/

section

namespace Sys2Proof.Machine

/-! ### The CRC accumulator -/

/-- A command that does not read `crc` performs the same with another value there. -/
theorem Performs.with_crc {s u : State} {i : Instr} {r : Response} (h : Performs s i u r) (hread : i ≠ .crcRead)
    (hfeed : ∀ b, i ≠ .crcFeed b) (v : Word) : ∃ c, Performs (s.setCrc v) i (u.setCrc c) r := by
  cases h with
  | crcInit => exact ⟨Config.crcInit, .crcInit⟩
  | crcFeed b => exact absurd rfl (hfeed b)
  | crcRead => exact absurd rfl hread
  | _ => exact ⟨v, by constructor <;> assumption⟩

/-- Settles O32, by what each command writes and by its run on another value of `crc`. -/
theorem crcBelongsToTheCrcCommands : Obligations.CrcBelongsToTheCrcCommands := by
  refine ⟨rfl, fun i s t h => ?_, fun i s t v hread hfeed h => ?_⟩
  · obtain ⟨u, r, hp, rfl⟩ := exec_eq_next_iff.1 h
    cases hp <;> rfl
  · obtain ⟨u, r, hp, rfl⟩ := exec_eq_next_iff.1 h
    obtain ⟨c, hc⟩ := hp.with_crc hread hfeed v
    exact ⟨c, hc.exec_eq⟩

/-! ### The count of valid bytes -/

/-- Bits 12:8 of STATUS are the bits of `rx_len`: seven fields stand below them (10_state.md R31). -/
theorem statusView_rxLenBits (s : State) : (statusView s).extractLsb' 8 5 = rxLenBits s.rxLen := by
  unfold statusView
  iterate 7 rw [BitVec.extractLsb'_append_eq_of_le (by decide)]
  rw [BitVec.extractLsb'_append_eq_of_add_le (by decide)]
  exact BitVec.extractLsb'_eq_self

/-- Five bits hold every count. -/
theorem rxLenBits_toNat (n : Fin 31) : (rxLenBits n).toNat = n.val := by
  have := n.isLt
  rw [rxLenBits, BitVec.toNat_ofNat]
  omega

/-- Settles O33, by what each command writes and by the place of the field in STATUS. -/
theorem rxLenChangesAsStated : Obligations.RxLenChangesAsStated := by
  refine ⟨rfl, fun i s t h => ?_, fun s => ⟨Nat.le_of_lt_succ s.rxLen.isLt, ?_⟩⟩
  · obtain ⟨u, r, hp, rfl⟩ := exec_eq_next_iff.1 h
    cases hp with
    | rxPush b room => exact (rxLen_succ room).trans (if_pos (rxLen_lt_thirty room)).symm
    | rxPushFull b full => simp [full]
    | _ => rfl
  · rw [statusView_rxLenBits, rxLenBits_toNat]

/-! ### The bytes of the buffer -/

/-- Only RX.PUSH below 30 bytes changes a byte, the one at `rx_len` (10_state.md R23). -/
theorem Performs.rx_read {s u : State} {i : Instr} {r : Response} (h : Performs s i u r) {a : Nat}
    (ha : ¬ ((∃ b, i = .rxPush b) ∧ s.rxLen.val < 30 ∧ a = s.rxLen.val)) : u.rx.read a = s.rx.read a := by
  cases h with
  | rxPush b room =>
    exact Memory.read_write_other _ b fun haddr => ha ⟨⟨b, rfl⟩, rxLen_lt_thirty room, haddr⟩
  | _ => rfl

/-- Settles O34: RX.PUSH below 30 bytes is the one write of the buffer. -/
theorem bufferBytesChangeOnlyByPush : Obligations.BufferBytesChangeOnlyByPush := by
  intro i s t h a ha
  obtain ⟨u, r, hp, rfl⟩ := exec_eq_next_iff.1 h
  exact hp.rx_read ha

/-! ### The result latch -/

/-- A command leaves the latch, or is a DECODE that commits the fields of its buffer (10_state.md R28). -/
theorem Performs.latch {s u : State} {i : Instr} {r : Response} (h : Performs s i u r) :
    (u.resValid = s.resValid ∧ u.resCo2 = s.resCo2 ∧ u.resTemp = s.resTemp)
    ∨ (i = .decode ∧ 24 ≤ s.rxLen.val ∧ u.resValid = true
        ∧ u.resCo2 = s.rx.read 23 ++ s.rx.read 22 ∧ u.resTemp = s.rx.read 9 ++ s.rx.read 8) := by
  cases h with
  | decodeStored long | decodeWarned long => exact .inr ⟨rfl, long, rfl, rfl, rfl⟩
  | _ => exact .inl ⟨rfl, rfl, rfl⟩

/-- With nothing held the three readers answer E_NODATA and write nothing. -/
theorem performs_reader_of_empty {s : State} {i : Instr} (hi : i = .rdCo2 ∨ i = .rdTemp ∨ i = .rdReading)
    (hempty : s.resValid = false) : Performs s i s ⟨.eNodata, 0x00000000#32⟩ := by
  rcases hi with rfl | rfl | rfl
  · exact .rdCo2Empty hempty
  · exact .rdTempEmpty hempty
  · exact .rdReadingEmpty hempty

/-- Settles O35: DECODE's commit is the one write of the latch. -/
theorem latchIsWrittenWholeByDecode : Obligations.LatchIsWrittenWholeByDecode := by
  refine ⟨fun i s t h => ?_, fun i s hi hempty => (performs_reader_of_empty hi hempty).exec_eq,
    fun i s t h hvalid => ?_⟩
  · obtain ⟨u, r, hp, rfl⟩ := exec_eq_next_iff.1 h
    exact hp.latch
  · obtain ⟨u, r, hp, rfl⟩ := exec_eq_next_iff.1 h
    rcases hp.latch with ⟨hkept, -, -⟩ | ⟨-, -, hset, -, -⟩
    · exact hkept.trans hvalid
    · exact hset

/-! ### The sticky flags -/

/-- `f_short` after a command (10_state.md R29). -/
theorem Performs.fShort_iff {s u : State} {i : Instr} {r : Response} (h : Performs s i u r) :
    u.fShort = true ↔ i ≠ .flagsClr ∧ (s.fShort = true ∨ i = .decode ∧ s.rxLen.val < 24) := by
  cases h with
  | decodeShort short => simp [short]
  | decodeStored long | decodeWarned long | decodeRejected long => simp [Nat.not_lt.2 long]
  | _ => simp

/-- `f_crcwarn` after a command. -/
theorem Performs.fCrcwarn_iff {s u : State} {i : Instr} {r : Response} (h : Performs s i u r) :
    u.fCrcwarn = true ↔ i ≠ .flagsClr ∧ (s.fCrcwarn = true
      ∨ i = .decode ∧ 24 ≤ s.rxLen.val ∧ s.policy = .warn ∧ ¬ s.checksumMatches) := by
  cases h with
  | decodeShort short => simp [Nat.not_le.2 short]
  | decodeStored long stored =>
    rcases stored with haccept | hmatch
    · simp [haccept]
    · simp [hmatch]
  | decodeWarned long policy mismatch => simp [long, policy, mismatch]
  | decodeRejected long policy => simp [policy]
  | _ => simp

/-- `f_crcrej` after a command. -/
theorem Performs.fCrcrej_iff {s u : State} {i : Instr} {r : Response} (h : Performs s i u r) :
    u.fCrcrej = true ↔ i ≠ .flagsClr ∧ (s.fCrcrej = true
      ∨ i = .decode ∧ 24 ≤ s.rxLen.val ∧ s.policy = .reject ∧ ¬ s.checksumMatches) := by
  cases h with
  | decodeShort short => simp [Nat.not_le.2 short]
  | decodeStored long stored =>
    rcases stored with haccept | hmatch
    · simp [haccept]
    · simp [hmatch]
  | decodeWarned long policy => simp [policy]
  | decodeRejected long policy mismatch => simp [long, policy, mismatch]
  | _ => simp

/-- `f_rxovf` after a command. -/
theorem Performs.fRxovf_iff {s u : State} {i : Instr} {r : Response} (h : Performs s i u r) :
    u.fRxovf = true ↔ i ≠ .flagsClr ∧ (s.fRxovf = true ∨ (∃ b, i = .rxPush b) ∧ s.rxLen.val = 30) := by
  cases h with
  | rxPush b room => simp [mt rxLen_eq_thirty.2 room]
  | rxPushFull b full => simp [full]
  | _ => simp

/-- A state with other flags. -/
def State.withFlags (a b c d : Bool) (s : State) : State :=
  { s with fShort := a, fCrcwarn := b, fCrcrej := c, fRxovf := d }

/-- A command that does not read the flags performs the same with others there. -/
theorem Performs.with_flags {s u : State} {i : Instr} {r : Response} (h : Performs s i u r) (hread : i ≠ .statusRd)
    (a b c d : Bool) : ∃ a' b' c' d', Performs (s.withFlags a b c d) i (u.withFlags a' b' c' d') r := by
  cases h with
  | rxPushFull _ full => exact ⟨a, b, c, true, .rxPushFull _ full⟩
  | decodeShort short => exact ⟨true, b, c, d, .decodeShort short⟩
  | decodeWarned long policy mismatch => exact ⟨a, true, c, d, .decodeWarned long policy mismatch⟩
  | decodeRejected long policy mismatch => exact ⟨a, b, true, d, .decodeRejected long policy mismatch⟩
  | statusRd => exact absurd rfl hread
  | flagsClr => exact ⟨false, false, false, false, .flagsClr⟩
  | _ => exact ⟨a, b, c, d, by constructor <;> assumption⟩

/-- Settles O36, flag by flag, and by the run of each command on other flags. -/
theorem flagsAreStickyAsTabled : Obligations.FlagsAreStickyAsTabled := by
  refine ⟨fun i s t h => ?_, fun s rest h => ⟨_, step_of_reset h, rfl, rfl, rfl, rfl⟩,
    fun i s t t' a b c d hread h h' => ?_⟩
  · obtain ⟨u, r, hp, rfl⟩ := exec_eq_next_iff.1 h
    exact ⟨hp.fShort_iff, hp.fCrcwarn_iff, hp.fCrcrej_iff, hp.fRxovf_iff⟩
  · obtain ⟨u, r, hp, rfl⟩ := exec_eq_next_iff.1 h
    obtain ⟨a', b', c', d', hp'⟩ := hp.with_flags hread a b c d
    obtain rfl := Host.Outcome.next.inj (h'.symm.trans hp'.exec_eq)
    rfl

/-! ### The policy -/

/-- A command leaves the policy, or is a POLICY.SET whose operand is accepted (10_state.md R30). -/
theorem Performs.policy_eq_or {s u : State} {i : Instr} {r : Response} (h : Performs s i u r) :
    u.policy = s.policy ∨ ∃ p : Byte, i = .policySet p ∧ p.toNat ≤ 2 ∧ policyCode u.policy = p.extractLsb' 0 2 := by
  cases h with
  | @policySet p _ operand => exact .inr ⟨p, rfl, policyOperand_code operand⟩
  | _ => exact .inl rfl

/-- Settles O37: an accepted POLICY.SET is the one write of the policy. -/
theorem policyChangesOnlyByPolicySet : Obligations.PolicyChangesOnlyByPolicySet := by
  refine ⟨rfl, fun q => by cases q <;> decide, fun i s t h => ?_⟩
  obtain ⟨u, r, hp, rfl⟩ := exec_eq_next_iff.1 h
  exact hp.policy_eq_or

end Sys2Proof.Machine

end

/-! ## The invariant of the block

A step keeps the receive space canonical (`Performs.rx_wf`) and adds at most one response, a failure of which carries no
data (20_memory.md R51, 60_exceptions.md R211). -/

section

namespace Sys2Proof.Machine

/-- Every command leaves the responses already given as they are. -/
theorem Performs.responses_eq {s u : State} {i : Instr} {r : Response} (h : Performs s i u r) :
    u.responses = s.responses := by
  cases h <;> rfl

/-- A command that fails answers data 0 (60_exceptions.md R211). -/
theorem Performs.data_of_failure {s u : State} {i : Instr} {r : Response} (h : Performs s i u r)
    (hfail : r.status.failure = true) : r.data = 0x00000000#32 := by
  cases h with
  | frameRdRefused | rxPushFull | decodeShort | decodeRejected | rdCo2Empty | rdTempEmpty | rdReadingEmpty | rdHumid
  | policySetRefused => rfl
  | _ => cases hfail

/-- An answer keeps the invariant when a failure among its statuses carries no data. -/
theorem State.Inv.respond {s : State} (h : s.Inv) {st : Status} {d : Data}
    (hdata : st.failure = true → d = 0x00000000#32) : (s.respond st d).Inv := by
  obtain ⟨hwf, hanswers⟩ := h
  refine ⟨hwf, fun r hr => ?_⟩
  rcases List.mem_append.1 hr with hold | hnew
  · exact hanswers r hold
  · obtain rfl := List.mem_singleton.1 hnew
    exact hdata

/-- The invariant does not look at the port's pending events. -/
theorem State.Inv.setEvents {s : State} (h : s.Inv) (es : List Event) : (s.setEvents es).Inv := h

/-- A reset event keeps the invariant: the buffer is that of reset, and the responses stay. -/
theorem State.Inv.resetEvent {s : State} (h : s.Inv) : s.resetEvent.Inv := ⟨Memory.wf_reset, h.2⟩

/-- The writes of a command keep the invariant. -/
theorem Performs.inv {s u : State} {i : Instr} {r : Response} (h : Performs s i u r) (hs : s.Inv) : u.Inv :=
  ⟨h.rx_wf hs.1, h.responses_eq.symm ▸ hs.2⟩

theorem exec_keeps_inv {i : Instr} {s t : State} (hs : s.Inv) (h : exec i s = .next t) : t.Inv := by
  obtain ⟨u, r, hp, rfl⟩ := exec_eq_next_iff.1 h
  exact (hp.inv hs).respond hp.data_of_failure

theorem stepWord_keeps_inv {w : Word} {s t : State} (hs : s.Inv) (h : stepWord w s = .next t) : t.Inv := by
  cases hw : decode w with
  | ok i => exact exec_keeps_inv hs (stepWord_of_ok hw s ▸ h)
  | error e =>
    obtain rfl := Host.Outcome.next.inj ((stepWord_of_error hw s).symm.trans h)
    exact hs.respond fun _ => rfl

/-- Settles O50, by the event the step takes. -/
theorem stepKeepsTheInvariant : Obligations.StepKeepsTheInvariant := by
  intro s t hs h
  cases hevents : s.events with
  | nil =>
    obtain rfl := Host.Outcome.next.inj ((step_of_nil hevents).symm.trans h)
    exact hs
  | cons e rest =>
    cases e with
    | command w => exact stepWord_keeps_inv (hs.setEvents rest) (step_of_command hevents ▸ h)
    | reset =>
      obtain rfl := Host.Outcome.next.inj ((step_of_reset hevents).symm.trans h)
      exact (hs.setEvents rest).resetEvent

end Sys2Proof.Machine

end

/-! ## Commands done twice (20_memory.md R58) -/

section

namespace Sys2Proof.Machine

/-- No command reads the responses already given: with one more there it performs the same. -/
theorem Performs.after_response {s u : State} {i : Instr} {r : Response} (h : Performs s i u r) (st : Status) (d : Data) :
    Performs (s.respond st d) i (u.respond st d) r := by
  cases h <;> constructor <;> assumption

/-- The pure reads of R58. -/
def PureRead (i : Instr) : Prop :=
  i = .crcRead ∨ (∃ k, i = .frameRd k) ∨ i = .rdCo2 ∨ i = .rdTemp ∨ i = .rdReading ∨ i = .rdHumid ∨ i = .statusRd

/-- A pure read writes nothing. -/
theorem Performs.eq_of_read {s u : State} {i : Instr} {r : Response} (h : Performs s i u r) (hread : PureRead i) :
    u = s := by
  rcases hread with rfl | ⟨k, rfl⟩ | rfl | rfl | rfl | rfl | rfl <;> cases h <;> rfl

/-- A pure read performs, and leaves its state. -/
theorem exists_performs_read {i : Instr} (hread : PureRead i) (s : State) : ∃ r, Performs s i s r := by
  obtain ⟨u, r, hp⟩ := exists_performs i s
  obtain rfl := hp.eq_of_read hread
  exact ⟨r, hp⟩

/-- The commands R58 calls idempotent when repeated at once. -/
def IdempotentCommand (i : Instr) : Prop :=
  i = .crcInit ∨ i = .rxClear ∨ (∃ p, i = .policySet p) ∨ i = .flagsClr

/-- An idempotent command, done again on what it wrote, writes the same and answers the same. -/
theorem Performs.again {s u : State} {i : Instr} {r : Response} (h : Performs s i u r)
    (hidem : IdempotentCommand i) : Performs u i u r := by
  rcases hidem with rfl | rfl | ⟨p, rfl⟩ | rfl
  · cases h; exact .crcInit
  · cases h; exact .rxClear
  · cases h with
    | policySet operand => exact .policySet operand
    | policySetRefused operand => exact .policySetRefused operand
  · cases h; exact .flagsClr

/-- DECODE consumes the buffer, whatever its outcome (42_receive_decode.md R132). -/
theorem Performs.rxLen_of_decode {s u : State} {r : Response} (h : Performs s .decode u r) : u.rxLen = 0 := by
  cases h <;> rfl

/-- DECODE of an empty buffer answers E_SHORT and sets `f_short`. -/
theorem performs_decode_of_empty {s : State} (h : s.rxLen = 0) :
    Performs s .decode s.setShort ⟨.eShort, 0x00000000#32⟩ := by
  have hkept : s.setRxLen 0 = s := by rw [← h]; rfl
  have hp : Performs s .decode (s.setRxLen 0).setShort ⟨.eShort, 0x00000000#32⟩ := .decodeShort (by simp [h])
  rwa [hkept] at hp

/-- A second DECODE in a row answers E_SHORT. -/
theorem exec_decode_after_decode {s t : State} (h : exec .decode s = .next t) :
    exec .decode t = .next (t.setShort.respond .eShort 0x00000000#32) := by
  obtain ⟨u, r, hp, rfl⟩ := exec_eq_next_iff.1 h
  exact (performs_decode_of_empty (s := u.respond r.status r.data) hp.rxLen_of_decode).exec_eq

/-- From reset, feeding 0x00 twice leaves another accumulator than feeding it once. -/
theorem crcFeed_not_idempotent :
    ∃ (b : Byte) (s t u : State), exec (.crcFeed b) s = .next t ∧ exec (.crcFeed b) t = .next u ∧ u.crc ≠ t.crc :=
  ⟨0x00#8, .reset, _, _, (Performs.crcFeed _).exec_eq, (Performs.crcFeed _).exec_eq, by decide +kernel⟩

/-- From reset, pushing a byte twice leaves two bytes in the buffer. -/
theorem rxPush_not_idempotent :
    ∃ (b : Byte) (s t u : State), exec (.rxPush b) s = .next t ∧ exec (.rxPush b) t = .next u ∧ u.rxLen ≠ t.rxLen :=
  ⟨0x00#8, .reset, _, _, (Performs.rxPush _ (by decide)).exec_eq, (Performs.rxPush _ (by decide)).exec_eq, by decide⟩

/-- A buffer of 24 bytes under ACCEPT: DECODE stores a reading, and only a second one finds the buffer short. -/
theorem decode_not_idempotent :
    ∃ s t u : State, exec .decode s = .next t ∧ exec .decode t = .next u ∧ u.fShort ≠ t.fShort := by
  have hstored := (Performs.decodeStored (s := { State.reset with rxLen := 24, policy := .accept })
    (by decide) (.inl rfl)).exec_eq
  exact ⟨_, _, _, hstored, exec_decode_after_decode hstored, by decide⟩

/-- Settles O41, class by class. -/
theorem idempotencyByCommandClass : Obligations.IdempotencyByCommandClass := by
  refine ⟨fun i j s hi hj => ?_, fun i s t hidem h => ?_, crcFeed_not_idempotent, rxPush_not_idempotent,
    decode_not_idempotent, fun s t => exec_decode_after_decode⟩
  · obtain ⟨r, hr⟩ := exists_performs_read hi s
    obtain ⟨q, hq⟩ := exists_performs_read hj s
    exact ⟨r, q, hr.exec_eq, hq.exec_eq, (hq.after_response r.status r.data).exec_eq⟩
  · obtain ⟨u, r, hp, rfl⟩ := exec_eq_next_iff.1 h
    exact ⟨_, ((hp.again hidem).after_response r.status r.data).exec_eq, rfl⟩

end Sys2Proof.Machine

end

/-! ## The atomic snapshot (20_memory.md R63) -/

section

namespace Sys2Proof.Machine

/-- The low half of a zero-extended word is the word. -/
theorem extractLsb'_zext32 (v : Word) : (zext32 v).extractLsb' 0 16 = v := by
  rw [BitVec.extractLsb'_setWidth_of_le (by decide), BitVec.extractLsb'_eq_self]

/-- The low half of a sign-extended word is the word. -/
theorem extractLsb'_sext32 (v : Word) : (sext32 v).extractLsb' 0 16 = v := by
  ext i hi
  have hi' : i < 32 := by omega
  simp [BitVec.getElem_signExtend, hi, hi']

/-- Settles O42: the readers answer the two halves of the latch and the pair. -/
theorem snapshotIsThePairOfReads : Obligations.SnapshotIsThePairOfReads := by
  intro s held
  refine ⟨_, _, _, (Performs.rdCo2 held).exec_eq, (Performs.rdTemp held).exec_eq, (Performs.rdReading held).exec_eq, ?_⟩
  rw [extractLsb'_zext32, extractLsb'_sext32]

end Sys2Proof.Machine

end

/-! ## The decoder and the encoder are inverse (30_encoding.md R71 to R76)

`decode_eq_ok_iff_row` says once which words decode, and to what; `decode_encode` and `encode_of_decode` follow from
it. -/

section

namespace Sys2Proof

open Laws.WordCarriesOpcode (wordOp_append)

/-! ### The two fields of a word -/

theorem wordImm8_append (op imm8 : Byte) : wordImm8 (op ++ imm8) = imm8 := BitVec.extractLsb'_append_eq_right

/-- A word is its opcode followed by its operand byte (R71). -/
theorem wordOp_append_wordImm8 (w : Word) : wordOp w ++ wordImm8 w = w :=
  BitVec.extractLsb'_append_extractLsb' (w := 8) (len := 8)

/-! ### The rows of the table -/

theorem mem_allMnemonics (m : Mnemonic) : m ∈ allMnemonics := by
  cases m <;> decide

@[simp] theorem mnemonicOfOp_opcode (m : Mnemonic) : mnemonicOfOp m.opcode = some m := by
  cases m <;> rfl

/-- The op column read back: an opcode names the one row it stands in (R73). -/
theorem mnemonicOfOp_eq_some_iff {op : Byte} {m : Mnemonic} : mnemonicOfOp op = some m ↔ op = m.opcode := by
  constructor
  · intro h
    rw [mnemonicOfOp] at h
    split at h
    case h_15 => cases h
    all_goals
      next hop =>
        cases h
        exact BitVec.eq_of_toNat_eq hop
  · rintro rfl
    exact mnemonicOfOp_opcode m

theorem opcode_injective : Function.Injective Mnemonic.opcode := fun m m' h => by
  have h' : some m = some m' := by rw [← mnemonicOfOp_opcode m, h, mnemonicOfOp_opcode]
  exact Option.some.inj h'

@[simp] theorem Mnemonic.mnemonic_instr (m : Mnemonic) (imm8 : Byte) : (m.instr imm8).mnemonic = m := by
  cases m <;> rfl

/-- A class-Z row takes no operand, any other takes the byte (R72). -/
theorem Mnemonic.operand_instr (m : Mnemonic) (imm8 : Byte) :
    (m.instr imm8).operand = if m.operandClass = .z then none else some imm8 := by
  cases m <;> rfl

/-- An instruction is the one its row names with its operand. -/
theorem Instr.instr_mnemonic (i : Instr) (imm8 : Byte) : i.mnemonic.instr (i.operand.getD imm8) = i := by
  cases i <;> rfl

/-- An instruction of a class-Z row carries no operand. -/
theorem Instr.operand_of_classZ {i : Instr} (h : i.mnemonic.operandClass = .z) : i.operand = none := by
  rw [← i.instr_mnemonic 0x00#8, Mnemonic.operand_instr, if_pos h]

/-- Every instruction is well formed: its operand is a byte, and it has one just when its class asks for it. -/
theorem Instr.wellFormed_eq_true (i : Instr) : i.wellFormed = true := by
  cases i with
  | crcFeed b | frameRd b | rxPush b | policySet b => exact Laws.WordCarriesOpcode.byte_le b
  | _ => rfl

/-! ### Which words decode -/

/-- What the decoder takes: the opcode of a row, with the operand 0x00 if the row is of class Z (R75, R76). -/
def Mnemonic.Takes (m : Mnemonic) (w : Word) : Prop :=
  wordOp w = m.opcode ∧ (m.operandClass = .z → wordImm8 w = 0x00#8)

/-- A word decodes by the row that takes it, with its low byte as the operand, and not otherwise. -/
theorem decode_eq_ok_iff_row {w : Word} {i : Instr} :
    decode w = .ok i ↔ ∃ m : Mnemonic, m.Takes w ∧ m.instr (wordImm8 w) = i := by
  constructor
  · intro h
    rw [decode] at h
    split at h
    · cases h
    · next m hm =>
      split at h
      · cases h
      · next hz =>
        exact ⟨m, ⟨mnemonicOfOp_eq_some_iff.1 hm, fun hcl => by_contra fun hne => hz ⟨hcl, hne⟩⟩, Except.ok.inj h⟩
  · rintro ⟨m, ⟨hop, hz⟩, rfl⟩
    simp only [decode, hop, mnemonicOfOp_opcode]
    exact if_neg fun ⟨hcl, hne⟩ => hne (hz hcl)

theorem exists_decode_iff {w : Word} : (∃ i, decode w = .ok i) ↔ ∃ m : Mnemonic, m.Takes w :=
  ⟨fun ⟨_, h⟩ => (decode_eq_ok_iff_row.1 h).imp fun _ => And.left,
    fun ⟨m, h⟩ => ⟨_, decode_eq_ok_iff_row.2 ⟨m, h, rfl⟩⟩⟩

/-! ### No bit is lost either way -/

/-- The word of a row's instruction is the opcode and the operand byte; class Z has 0x00 there (R72). -/
theorem encode_instr {m : Mnemonic} {imm8 : Byte} (hz : m.operandClass = .z → imm8 = 0x00#8) :
    encode (m.instr imm8) = m.opcode ++ imm8 := by
  rw [encode, Mnemonic.mnemonic_instr, Mnemonic.operand_instr]
  split
  · next hcl => rw [hz hcl]; rfl
  · rfl

/-- Decoding the word of an instruction gives it back. -/
theorem decode_encode (i : Instr) : decode (encode i) = .ok i := by
  refine decode_eq_ok_iff_row.2 ⟨i.mnemonic, ⟨wordOp_append _ _, fun hz => ?_⟩, ?_⟩
  · rw [encode, wordImm8_append, Instr.operand_of_classZ hz]; rfl
  · rw [encode, wordImm8_append, Instr.instr_mnemonic]

/-- A word that decodes is the word of the instruction it decodes to. -/
theorem encode_of_decode {w : Word} {i : Instr} (h : decode w = .ok i) : encode i = w := by
  obtain ⟨m, ⟨hop, hz⟩, rfl⟩ := decode_eq_ok_iff_row.1 h
  rw [encode_instr hz, ← hop, wordOp_append_wordImm8]

end Sys2Proof

namespace Sys2Proof.Machine

/-- Settles O1: no operand byte is out of range, and the decoder undoes the encoder. -/
theorem decodeOfEncodeIsTheInstruction : Obligations.DecodeOfEncodeIsTheInstruction :=
  fun i => ⟨i.wellFormed_eq_true, decode_encode i⟩

/-- Settles O2: the encoder undoes the decoder. -/
theorem encodeOfDecodeIsTheWord : Obligations.EncodeOfDecodeIsTheWord :=
  fun _ _ => encode_of_decode

/-- Settles O6: each of the eight words is the encoding of its command. -/
theorem wordsOfTheTableDecode : Obligations.WordsOfTheTableDecode :=
  ⟨decode_encode .crcInit, decode_encode (.crcFeed 0x52#8), decode_encode (.frameRd 0x07#8),
    decode_encode (.rxPush 0xFE#8), decode_encode .decode, decode_encode .rdReading,
    decode_encode (.policySet 0x02#8), decode_encode .statusRd⟩

end Sys2Proof.Machine

end

/-! ## Match and mask (30_encoding.md R73) -/

section

namespace Sys2Proof

open Laws.WordCarriesOpcode (wordOp_append)

theorem Mnemonic.tableMatch_eq (m : Mnemonic) : m.tableMatch = m.opcode ++ 0x00#8 := by
  cases m <;> rfl

/-- The mask covers the opcode, and the operand byte of a class-Z row. -/
theorem Mnemonic.tableMask_eq (m : Mnemonic) :
    m.tableMask = 0xFF#8 ++ if m.operandClass = .z then 0xFF#8 else 0x00#8 := by
  cases m <;> rfl

/-- Bytes put together are equal just when both halves are. -/
theorem append_eq_append_iff {a b c d : Byte} : (a ++ b : Word) = c ++ d ↔ a = c ∧ b = d := by
  refine ⟨fun h => ⟨?_, ?_⟩, fun ⟨hac, hbd⟩ => by rw [hac, hbd]⟩
  · rw [← wordOp_append a b, h, wordOp_append]
  · rw [← wordImm8_append a b, h, wordImm8_append]

/-- The match and mask test of a row asks for just what the decoder does. -/
theorem Mnemonic.and_tableMask_eq_iff {m : Mnemonic} {w : Word} : w &&& m.tableMask = m.tableMatch ↔ m.Takes w := by
  have hfull : ∀ b : Byte, b &&& 0xFF#8 = b := fun b => BitVec.and_allOnes
  rw [← wordOp_append_wordImm8 w, tableMask_eq, tableMatch_eq, BitVec.and_append, append_eq_append_iff, Takes,
    wordOp_append, wordImm8_append, hfull]
  by_cases hz : m.operandClass = .z <;> simp [hz, hfull]

end Sys2Proof

namespace Sys2Proof.Machine

/-- Settles O3: the row of a decoded word is the one that takes it, which is the match and mask test. -/
theorem wordEncodesTheRowItMatches : Obligations.WordEncodesTheRowItMatches := by
  refine ⟨rfl, fun w m => ?_⟩
  rw [Mnemonic.and_tableMask_eq_iff]
  constructor
  · rintro ⟨i, hdecode, rfl⟩
    obtain ⟨m, htakes, rfl⟩ := decode_eq_ok_iff_row.1 hdecode
    rwa [Mnemonic.mnemonic_instr]
  · intro htakes
    exact ⟨_, decode_eq_ok_iff_row.2 ⟨m, htakes, rfl⟩, Mnemonic.mnemonic_instr m _⟩

end Sys2Proof.Machine

end

/-! ## The words that name no command (30_encoding.md R76) -/

section

namespace Sys2Proof

/-- The opcodes of the table. -/
def definedOps : List Byte := allMnemonics.map Mnemonic.opcode

/-- The opcodes of its class-Z rows. -/
def classZOps : List Byte := (allMnemonics.filter fun m => m.operandClass = .z).map Mnemonic.opcode

theorem opcode_mem_definedOps (m : Mnemonic) : m.opcode ∈ definedOps := List.mem_map_of_mem (mem_allMnemonics m)

theorem opcode_mem_classZOps_iff {m : Mnemonic} : m.opcode ∈ classZOps ↔ m.operandClass = .z := by
  rw [classZOps, List.mem_map_of_injective opcode_injective, List.mem_filter]
  simp [mem_allMnemonics]

/-- A word is in one of the two groups of R76. -/
def InIllegalGroup (w : Word) : Prop :=
  wordOp w ∉ definedOps ∨ (wordOp w ∈ classZOps ∧ wordImm8 w ≠ 0x00#8)

/-- The two groups are the words that no row takes. -/
theorem inIllegalGroup_iff {w : Word} : InIllegalGroup w ↔ ¬ ∃ m : Mnemonic, m.Takes w := by
  constructor
  · rintro hill ⟨m, hop, hz⟩
    rcases hill with hundefined | ⟨hclassZ, himm⟩
    · exact hundefined (hop ▸ opcode_mem_definedOps m)
    · exact himm (hz (opcode_mem_classZOps_iff.1 (hop ▸ hclassZ)))
  · intro hnone
    by_cases hdefined : wordOp w ∈ definedOps
    · obtain ⟨m, -, hop⟩ := List.mem_map.1 hdefined
      have hnot : ¬ (m.operandClass = .z → wordImm8 w = 0x00#8) := fun hz => hnone ⟨m, hop.symm, hz⟩
      obtain ⟨hz, himm⟩ := Classical.not_imp.1 hnot
      exact .inr ⟨hop ▸ opcode_mem_classZOps_iff.2 hz, himm⟩
    · exact .inl hdefined

end Sys2Proof

namespace Sys2Proof.Machine

/-- A word that no row takes answers E_ILLEGAL, and does nothing else. -/
theorem answersIllegal_of_no_row {w : Word} (h : ¬ ∃ m : Mnemonic, m.Takes w) : answersIllegal w := by
  intro s
  cases hw : decode w with
  | ok i => exact absurd (exists_decode_iff.1 ⟨i, hw⟩) h
  | error e => exact stepWord_of_error hw s

/-- Settles O4: the groups of R76 are the words that no row takes. -/
theorem illegalWordsAnswerIllegalOnly : Obligations.IllegalWordsAnswerIllegalOnly := by
  refine ⟨by decide +kernel, fun w hill => ?_, fun w hlegal => ?_⟩
  · exact answersIllegal_of_no_row (inIllegalGroup_iff.1 hill)
  · exact exists_decode_iff.2 (not_not.1 (mt inIllegalGroup_iff.2 hlegal))

end Sys2Proof.Machine

end

/-! ## The count check (30_encoding.md R77) -/

section

namespace Sys2Proof

open Laws.WordCarriesOpcode (wordOp_append)

/-- A word decodes when its opcode names a row that takes its operand byte. -/
theorem isOk_decode_append (op imm8 : Byte) :
    (decode (op ++ imm8)).isOk = (mnemonicOfOp op).any fun m => decide (m.operandClass = .z → imm8 = 0x00#8) := by
  rw [decode, wordOp_append, wordImm8_append]
  cases mnemonicOfOp op with
  | none => rfl
  | some m =>
    by_cases hz : m.operandClass = .z <;> by_cases himm : imm8 = 0x00#8 <;> simp [hz, himm, Except.isOk, Except.toBool]

/-- How many words with this opcode are legal: one for class Z, all 256 for the other classes. -/
def legalOperandCount (op : Byte) : Nat :=
  match mnemonicOfOp op with
  | none => 0
  | some m => if m.operandClass = .z then 1 else 256

/-- The operand bytes that are legal after an opcode, counted. -/
theorem length_filter_isOk_decode (op : Byte) :
    ((List.range 256).filter fun b => (decode (op ++ BitVec.ofNat 8 b)).isOk).length = legalOperandCount op := by
  simp only [isOk_decode_append, legalOperandCount]
  cases mnemonicOfOp op with
  | none => rfl
  | some m =>
    by_cases hz : m.operandClass = .z
    · simp only [Option.any_some, hz, true_imp_iff, if_true]
      decide +kernel
    · simp [hz]

/-- The other operand bytes, counted. -/
theorem length_filter_not_isOk_decode (op : Byte) :
    ((List.range 256).filter fun b => !(decode (op ++ BitVec.ofNat 8 b)).isOk).length = 256 - legalOperandCount op := by
  have hsplit := (List.range 256).length_eq_length_filter_add fun b => (decode (op ++ BitVec.ofNat 8 b)).isOk
  rw [length_filter_isOk_decode, List.length_range] at hsplit
  omega

/-- The bytes from `n` up. -/
def bytesFrom (n : Nat) : List Byte := (List.range (256 - n)).map fun j => BitVec.ofNat 8 (n + j)

theorem length_bytesFrom (n : Nat) : (bytesFrom n).length = 256 - n := by
  simp [bytesFrom]

theorem nodup_bytesFrom (n : Nat) : (bytesFrom n).Nodup := by
  refine List.nodup_range.map_on fun a ha b hb hab => ?_
  have ha := List.mem_range.1 ha
  have hb := List.mem_range.1 hb
  have hnat := congrArg BitVec.toNat hab
  simp only [BitVec.toNat_ofNat] at hnat
  omega

theorem mem_bytesFrom {n : Nat} {b : Byte} : b ∈ bytesFrom n ↔ n ≤ b.toNat := by
  rw [bytesFrom, List.mem_map]
  constructor
  · rintro ⟨j, hj, rfl⟩
    have hj := List.mem_range.1 hj
    rw [BitVec.toNat_ofNat, Nat.mod_eq_of_lt (by omega)]
    omega
  · intro hb
    have hlt := b.isLt
    refine ⟨b.toNat - n, List.mem_range.2 (by omega), ?_⟩
    rw [Nat.add_sub_cancel' hb, BitVec.ofNat_toNat, BitVec.setWidth_eq]

end Sys2Proof

namespace Sys2Proof.Machine

/-- If all that `exec` changed is one response given, that response is the command's answer. -/
theorem Performs.answer_of_exec_eq {s u : State} {i : Instr} {r : Response} (h : Performs s i u r) {st : Status}
    {d : Data} (hexec : exec i s = .next (s.respond st d)) : r = ⟨st, d⟩ := by
  have hstate : u.respond r.status r.data = s.respond st d := Host.Outcome.next.inj (h.exec_eq.symm.trans hexec)
  have hresponses : u.responses ++ [r] = s.responses ++ [⟨st, d⟩] := congrArg State.responses hstate
  rw [h.responses_eq] at hresponses
  exact List.singleton_inj.1 (List.append_cancel_left hresponses)

/-- FRAME.RD is refused for the operands from 9 up (41_frame.md R121). -/
theorem exec_frameRd_refused_iff {k : Byte} {s : State} :
    exec (.frameRd k) s = .next (s.respond .eOperand 0x00000000#32) ↔ 9 ≤ k.toNat := by
  constructor
  · intro hexec
    by_contra hlt
    cases (Performs.frameRd (frameIndex_of_lt (Nat.not_le.1 hlt))).answer_of_exec_eq hexec
  · intro hge
    exact (Performs.frameRdRefused (frameIndex_of_ge hge)).exec_eq

/-- The policy operands without a policy are those above 2 (43_results_control.md R165). -/
theorem policyOperand_eq_none_iff {p : Byte} : policyOperand p = none ↔ 2 < p.toNat := by
  refine ⟨fun h => ?_, policyOperand_of_gt⟩
  by_contra hle
  have hsmall : p.toNat = 0 ∨ p.toNat = 1 ∨ p.toNat = 2 := by omega
  rcases hsmall with hp | hp | hp <;> simp [policyOperand, hp] at h

/-- POLICY.SET is refused for the operands from 3 up (43_results_control.md R165). -/
theorem exec_policySet_refused_iff {p : Byte} {s : State} :
    exec (.policySet p) s = .next (s.respond .eOperand 0x00000000#32) ↔ 3 ≤ p.toNat := by
  constructor
  · intro hexec
    cases hp : policyOperand p with
    | none => exact policyOperand_eq_none_iff.1 hp
    | some q => cases (Performs.policySet hp).answer_of_exec_eq hexec
  · intro hgt
    exact (Performs.policySetRefused (policyOperand_of_gt hgt)).exec_eq

/-- Settles O5: the legal words counted opcode by opcode, and the operands that are refused. -/
theorem legalWordCounts : Obligations.LegalWordCounts := by
  refine ⟨?_, ?_, bytesFrom 9, bytesFrom 3, length_bytesFrom 9, nodup_bytesFrom 9, length_bytesFrom 3, nodup_bytesFrom 3,
    fun k s => mem_bytesFrom.trans exec_frameRd_refused_iff.symm,
    fun p s => mem_bytesFrom.trans exec_policySet_refused_iff.symm⟩
  · simp only [length_filter_isOk_decode]
    decide +kernel
  · simp only [length_filter_not_isOk_decode]
    decide +kernel

end Sys2Proof.Machine

end

/-! ## The operands the assembler takes (30_encoding.md R78) -/

section

namespace Sys2Proof

/-- An operand above 255 is refused by every class. -/
theorem Line.wellFormed_of_large {m : Mnemonic} {n : Nat} (hn : 255 < n) : (Line.mk m (some n)).wellFormed = false := by
  cases hcl : m.operandClass <;> simp [Line.wellFormed, hcl, hn]

/-- Class Z takes a line without an operand, and no other. -/
theorem Line.wellFormed_of_classZ {m : Mnemonic} (hz : m.operandClass = .z) (operand : Option Nat) :
    (Line.mk m operand).wellFormed = operand.isNone := by
  cases operand <;> simp [Line.wellFormed, hz]

/-- The other classes take an operand up to 255. -/
theorem Line.wellFormed_of_operand {m : Mnemonic} (hz : m.operandClass ≠ .z) {n : Nat} (hn : n ≤ 255) :
    (Line.mk m (some n)).wellFormed = true := by
  cases hcl : m.operandClass with
  | z => exact absurd hcl hz
  | b | i | p => simp [Line.wellFormed, hcl, hn]

/-- `op ++ imm8` is `(op << 8) OR imm8`. -/
theorem append_eq_shiftLeft_or (op : Byte) {n : Nat} (hn : n ≤ 255) :
    op ++ BitVec.ofNat 8 n = op.setWidth 16 <<< 8 ||| BitVec.ofNat 16 n := by
  have himm : (BitVec.ofNat 8 n).setWidth 16 = BitVec.ofNat 16 n := by
    apply BitVec.eq_of_toNat_eq
    simp only [BitVec.toNat_setWidth, BitVec.toNat_ofNat]
    omega
  rw [← himm, ← BitVec.setWidth_append_eq_shiftLeft_setWidth_or, BitVec.setWidth_eq]

end Sys2Proof

namespace Sys2Proof.Machine

theorem assembleLine_of_ill_formed {l : Line} (h : l.wellFormed = false) : assembleLine l = none := by
  simp [assembleLine, h]

theorem assembleLine_of_wellFormed {l : Line} (h : l.wellFormed = true) :
    assembleLine l = some (l.mnemonic.opcode.setWidth 16 <<< 8 ||| BitVec.ofNat 16 (l.operand.getD 0)) :=
  if_pos h

/-- Settles O8, by the checks of a line. -/
theorem assemblerTakesExactlyTheLegalOperands : Obligations.AssemblerTakesExactlyTheLegalOperands := by
  intro m n
  refine ⟨fun hn => ?_, fun hz => ?_, fun hz => ?_, fun hz hn => ?_⟩
  · exact assembleLine_of_ill_formed (Line.wellFormed_of_large hn)
  · exact assembleLine_of_ill_formed (Line.wellFormed_of_classZ hz (some n))
  · rw [assembleLine_of_wellFormed (Line.wellFormed_of_classZ hz none)]
    exact congrArg some BitVec.or_zero
  · have hword : encode (m.instr (BitVec.ofNat 8 n)) = m.opcode.setWidth 16 <<< 8 ||| BitVec.ofNat 16 n :=
      (encode_instr fun h => absurd h hz).trans (append_eq_shiftLeft_or m.opcode hn)
    refine ⟨m.instr (BitVec.ofNat 8 n), Mnemonic.mnemonic_instr m _, ?_, ?_, hword⟩
    · rw [Mnemonic.operand_instr, if_neg hz]
    · rw [hword, assembleLine_of_wellFormed (Line.wellFormed_of_operand hz hn)]
      rfl

end Sys2Proof.Machine

end

/-! ## A step on a command word (30_encoding.md R70, R75, R76) -/

section

namespace Sys2Proof.Machine

/-- No command takes an event from the port. -/
theorem Performs.events_eq {s u : State} {i : Instr} {r : Response} (h : Performs s i u r) : u.events = s.events := by
  cases h <;> rfl

/-- A word stepped, legal or not, leaves the port's events and gives one response. -/
theorem stepWord_answers_once (w : Word) (s : State) :
    ∃ t r, stepWord w s = .next t ∧ t.events = s.events ∧ t.responses = s.responses ++ [r] := by
  cases hw : decode w with
  | ok i =>
    obtain ⟨u, r, hp⟩ := exists_performs i s
    exact ⟨_, r, (stepWord_of_ok hw s).trans hp.exec_eq, hp.events_eq, congrArg (· ++ [r]) hp.responses_eq⟩
  | error e => exact ⟨_, _, stepWord_of_error hw s, rfl, rfl⟩

/-- Settles O43, by whether the word decodes. -/
theorem stepRunsTheDecodedCommand : Obligations.StepRunsTheDecodedCommand := by
  intro s w rest hevents
  rw [step_of_command hevents]
  exact ⟨fun i hw => stepWord_of_ok hw _, fun e hw => stepWord_of_error hw _⟩

/-- Settles O44: the step takes the word, and the word is answered once. -/
theorem commandStepAnswersOnce : Obligations.CommandStepAnswersOnce := by
  intro s w rest hevents
  rw [step_of_command hevents]
  exact stepWord_answers_once w (s.setEvents rest)

end Sys2Proof.Machine

end

/-! ## The CRC functions (40_crc.md R100 to R102) -/

section

namespace Sys2Proof.Machine

/-! ### One round -/

/-- A round as arithmetic on the register's value: the shift halves it, and the bit shifted out is its parity (R100). -/
theorem toNat_crcRound (r : Word) :
    (crcRound r).toNat = if r.toNat % 2 = 1 then (r.toNat / 2) ^^^ 0xA001 else r.toNat / 2 := by
  have hodd : r.getLsbD 0 = true ↔ r.toNat % 2 = 1 := by rw [BitVec.getLsbD, Nat.testBit_zero, decide_eq_true_iff]
  have hhalf : (r >>> 1).toNat = r.toNat / 2 := by rw [BitVec.toNat_ushiftRight, Nat.shiftRight_one]
  simp only [crcRound, hodd]
  split
  · rw [BitVec.toNat_xor, hhalf]; rfl
  · exact hhalf

/-- Settles O9: the round as arithmetic, and the corner cases by evaluation. -/
theorem crcRoundShiftsThenXors : Obligations.CrcRoundShiftsThenXors :=
  ⟨toNat_crcRound, by decide, by decide, by decide, by decide⟩

/-! ### One byte -/

/-- A code is its two output bytes, the high one first (R103). -/
theorem codeHi_append_codeLo (c : Word) : codeHi c ++ codeLo c = c :=
  BitVec.extractLsb'_append_extractLsb' (w := 8) (len := 8)

/-- XOR with a zero-extended byte is XOR on the low byte, the high byte unchanged. -/
theorem xor_setWidth_byte (r : Word) (b : Byte) : r ^^^ b.setWidth 16 = codeHi r ++ (codeLo r ^^^ b) := by
  have hb : b.setWidth 16 = 0x00#8 ++ b := BitVec.setWidth_eq_append (by decide)
  calc r ^^^ b.setWidth 16
      = (codeHi r ++ codeLo r) ^^^ (0x00#8 ++ b) := by rw [codeHi_append_codeLo, hb]
    _ = (codeHi r ^^^ 0x00#8) ++ (codeLo r ^^^ b) := BitVec.xor_append
    _ = codeHi r ++ (codeLo r ^^^ b) := by rw [BitVec.xor_zero]

/-- A zero byte leaves the zero register as it is (R101). -/
theorem crcByte_zero : crcByte 0x0000#16 0x00#8 = 0x0000#16 := by decide

/-- The first byte of a frame, into the initial value (R101). -/
theorem crcByte_init_0x52 : crcByte 0xFFFF#16 0x52#8 = 0xBD3E#16 := by decide

/-- Settles O10: the byte goes into the low byte only, and the iterate is the eight rounds. -/
theorem crcByteIsEightRounds : Obligations.CrcByteIsEightRounds := by
  refine ⟨fun r b => ?_, crcByte_init_0x52, crcByte_zero, by decide, by decide⟩
  rw [crcByte, xor_setWidth_byte]
  rfl

/-! ### A sequence -/

/-- A byte more at the end is a `crc_byte` more (R102). -/
theorem crc16_append_singleton (bs : List Byte) (b : Byte) : crc16 (bs ++ [b]) = crcByte (crc16 bs) b :=
  List.foldl_concat _ _ _ _

/-- Settles O11: the fold of `crc_byte`, first byte first. -/
theorem crcOfASequenceByItsLastByte : Obligations.CrcOfASequenceByItsLastByte :=
  ⟨rfl, crc16_append_singleton⟩

end Sys2Proof.Machine

end

/-! ## The CRC commands (40_crc.md R104 to R106) -/

section

namespace Sys2Proof.Machine

open Laws.WordCarriesOpcode (wordOp_append)

/-- A class-Z opcode with an operand other than 0x00 names no command (30_encoding.md R76). -/
theorem answersIllegal_of_classZ_operand {m : Mnemonic} (hz : m.operandClass = .z) {imm8 : Byte}
    (himm : imm8 ≠ 0x00#8) : answersIllegal (m.opcode ++ imm8) := by
  have hclassZ : wordOp (m.opcode ++ imm8) ∈ classZOps := by
    rw [wordOp_append]; exact opcode_mem_classZOps_iff.2 hz
  have himm' : wordImm8 (m.opcode ++ imm8) ≠ 0x00#8 := by rwa [wordImm8_append]
  exact answersIllegal_of_no_row (inIllegalGroup_iff.1 (.inr ⟨hclassZ, himm'⟩))

/-- Zero-extending a word puts 16 zeros above it (00_scope.md R9). -/
theorem zext32_eq_append (v : Word) : zext32 v = 0x0000#16 ++ v := BitVec.setWidth_eq_append (by decide)

/-- A zero-extended code is its two output bytes with zeros above (R106). -/
theorem zext32_eq_append_code (c : Word) : zext32 c = 0x0000#16 ++ codeHi c ++ codeLo c := by
  have hassoc : 0x0000#16 ++ codeHi c ++ codeLo c = 0x0000#16 ++ (codeHi c ++ codeLo c) := BitVec.append_assoc
  rw [hassoc, codeHi_append_codeLo, zext32_eq_append]

/-- Settles O13: CRC.INIT writes the initial value, and is a class-Z row. -/
theorem crcInitSetsTheInitialValue : Obligations.CrcInitSetsTheInitialValue :=
  ⟨decode_encode .crcInit, fun _ himm => answersIllegal_of_classZ_operand (m := .crcInit) rfl himm,
    fun _ => Performs.crcInit.exec_eq⟩

/-- Settles O14: CRC.FEED writes the folded value and answers it, which from the code of a sequence is the code of the
longer one. -/
theorem crcFeedFoldsOneByte : Obligations.CrcFeedFoldsOneByte := by
  refine ⟨fun b => decode_encode (.crcFeed b), fun b s => ?_, fun bs b s hcode => ?_, crcByte_zero, crcByte_init_0x52⟩
  · rw [← zext32_eq_append]
    exact (Performs.crcFeed b).exec_eq
  · refine ⟨_, (Performs.crcFeed b).exec_eq, ?_⟩
    rw [crc16_append_singleton, ← hcode]
    rfl

/-- Settles O15: CRC.READ answers the accumulator zero-extended, and is a class-Z row. -/
theorem crcReadAnswersTheAccumulator : Obligations.CrcReadAnswersTheAccumulator := by
  refine ⟨decode_encode .crcRead, fun _ himm => answersIllegal_of_classZ_operand (m := .crcRead) rfl himm, fun s => ?_⟩
  rw [← zext32_eq_append_code]
  exact Performs.crcRead.exec_eq

end Sys2Proof.Machine

end

/-! ## A run over presented commands (20_memory.md R60) -/

section

namespace Sys2Proof.Machine

/-- A run with a command presented first goes on from what the command writes and answers with its word taken. -/
theorem runEvents_presented_cons {s u : State} {i : Instr} {is : List Instr} {rest : List Event} {r : Response}
    (hevents : s.events = presented (i :: is) ++ rest) (hp : Performs (s.setEvents (presented is ++ rest)) i u r)
    (k : Nat) : runEvents (k + 1) s = runEvents k (u.respond r.status r.data) := by
  refine runEvents_succ k ?_
  calc step s
      = stepWord (encode i) (s.setEvents (presented is ++ rest)) := step_of_command hevents
    _ = exec i (s.setEvents (presented is ++ rest)) := stepWord_of_ok (decode_encode i) _
    _ = .next (u.respond r.status r.data) := hp.exec_eq

end Sys2Proof.Machine

end

/-! ## The frame (41_frame.md R120 to R122)

`frameAnswer k` is the answer of FRAME.RD k, the same in every state; `performs_frameRd` ties it to the command. -/

section

namespace Sys2Proof.Machine

/-! ### The ROM -/

/-- The header's code (R120), evaluated over its seven bytes. -/
theorem crc16_frameHeader : crc16 frameHeader = 0xBBE2#16 := by decide +kernel

/-- The ROM holds the header followed by its code (R120). -/
theorem frameRom_toList : frameRom.toList = withCode frameHeader := by
  rw [withCode, crc16_frameHeader]
  rfl

/-- `FrameRead(i)` is byte `i` of the ROM read as a list. -/
theorem frameRead_eq_getD (k : Fin 9) : frameRead k = frameRom.toList.getD k.val 0x00#8 :=
  (List.getD_eq_getElem frameRom.toList 0x00#8 k.isLt).symm

/-! ### The command -/

/-- The answer of FRAME.RD by its operand: a byte of the frame, or E_OPERAND past its end (R121). -/
def frameAnswer (k : Byte) : Response :=
  if k.toNat ≤ 8 then ⟨.ok, zext32 (frameRom.toList.getD k.toNat 0x00#8)⟩ else ⟨.eOperand, 0x00000000#32⟩

theorem frameAnswer_of_le {k : Byte} (hk : k.toNat ≤ 8) :
    frameAnswer k = ⟨.ok, zext32 (frameRom.toList.getD k.toNat 0x00#8)⟩ := if_pos hk

theorem frameAnswer_of_gt {k : Byte} (hk : 8 < k.toNat) : frameAnswer k = ⟨.eOperand, 0x00000000#32⟩ :=
  if_neg (Nat.not_le.2 hk)

/-- In every state FRAME.RD writes nothing and answers by its operand alone (R121, R122). -/
theorem performs_frameRd (k : Byte) (s : State) : Performs s (.frameRd k) s (frameAnswer k) := by
  rcases Nat.lt_or_ge 8 k.toNat with hgt | hle
  · rw [frameAnswer_of_gt hgt]
    exact .frameRdRefused (frameIndex_of_ge hgt)
  · have hlt : k.toNat < 9 := Nat.lt_succ_of_le hle
    rw [frameAnswer_of_le hle, ← frameRead_eq_getD ⟨k.toNat, hlt⟩]
    exact .frameRd (frameIndex_of_lt hlt)

/-- Settles O16: the ROM holds the header and its code, and FRAME.RD answers by its operand alone. -/
theorem frameIsTheHeaderAndItsCode : Obligations.FrameIsTheHeaderAndItsCode := by
  refine ⟨rfl, rfl, crc16_frameHeader, frameRom_toList, fun k s t v h => ?_⟩
  obtain rfl := Host.Outcome.next.inj ((performs_frameRd k s).exec_eq.symm.trans h)
  exact ⟨rfl, (performs_frameRd k (s.setCrc v)).exec_eq⟩

/-- Settles O17: the row takes every operand, and the answer is by its range. -/
theorem frameRdAnswersAByteOrOperandError : Obligations.FrameRdAnswersAByteOrOperandError := by
  refine ⟨fun k => decode_encode (.frameRd k), fun k s hk => ?_, fun k s hk => ?_⟩
  · have hp := performs_frameRd k s
    rw [frameAnswer_of_le hk, ← List.getD_map (f := zext32)] at hp
    exact hp.exec_eq
  · have hp := performs_frameRd k s
    rw [frameAnswer_of_gt hk] at hp
    exact hp.exec_eq

/-! ### A run of reads -/

/-- FRAME.RD commands in a row are each answered by their operand, and change nothing else, by induction on the
operands. -/
theorem runEvents_frameRds (ks : List Byte) (s : State) (rest : List Event)
    (hevents : s.events = presented (ks.map .frameRd) ++ rest) :
    runEvents ks.length s =
      .next { s with events := rest, responses := s.responses ++ ks.map frameAnswer } := by
  induction ks generalizing s with
  | nil =>
    obtain rfl : s.events = rest := hevents
    simp [runEvents_zero]
  | cons k ks ih =>
    rw [List.length_cons, runEvents_presented_cons hevents (performs_frameRd k _), ih _ rfl]
    simp [State.respond, State.setEvents]

/-- The nine legal indices answer the bytes of the ROM in order (R121). -/
theorem frameAnswers_eq_frameRom :
    ((List.range 9).map (BitVec.ofNat 8)).map frameAnswer = frameRom.toList.map fun b => ⟨.ok, zext32 b⟩ := by
  decide

/-- Settles O53: the nine reads answer the ROM, which holds the header and its code. -/
theorem frameCommandsEmitTheFrame : Obligations.FrameCommandsEmitTheFrame := by
  intro s rest hevents
  rw [← frameRom_toList, ← frameAnswers_eq_frameRom]
  exact runEvents_frameRds ((List.range 9).map (BitVec.ofNat 8)) s rest (by rwa [List.map_map])

end Sys2Proof.Machine

end

/-! ## The receive buffer and DECODE (42_receive_decode.md R130 to R136) -/

section

namespace Sys2Proof.Machine

/-! ### The receive buffer -/

/-- Settles O18: RX.CLEAR writes the count alone, and is a class-Z row. -/
theorem rxClearEmptiesTheBuffer : Obligations.RxClearEmptiesTheBuffer :=
  ⟨decode_encode .rxClear, fun _ himm => answersIllegal_of_classZ_operand (m := .rxClear) rfl himm,
    fun _ => Performs.rxClear.exec_eq⟩

/-- Settles O19: RX.PUSH on a full buffer, and on one with room, where the laws of the receive space give the bytes. -/
theorem rxPushAppendsOrReportsFull : Obligations.RxPushAppendsOrReportsFull := by
  refine ⟨fun b => decode_encode (.rxPush b), fun b s hfull => ?_, fun b s hroom => ?_⟩
  · exact (Performs.rxPushFull b (rxLen_eq_thirty.2 hfull)).exec_eq
  · have hne : s.rxLen ≠ 30 := mt rxLen_eq_thirty.1 hroom.ne
    have hexec := (Performs.rxPush b hne).exec_eq
    rw [rxLen_succ hne] at hexec
    exact ⟨s.rx.write s.rxLen.val b, s.rxLen + 1, hexec, rxLen_succ hne,
      fun a ha => Memory.read_write_other _ b ha,
      fun hwf => ⟨Memory.read_write_same b hwf, Memory.wf_write b hwf hroom⟩⟩

/-! ### DECODE -/

/-- Settles O20, by the four ways DECODE ends: each is its row of the outcome table. -/
theorem decodeOutcomes : Obligations.DecodeOutcomes := by
  refine ⟨decode_encode .decode, fun _ himm => answersIllegal_of_classZ_operand (m := .decode) rfl himm, fun s => ?_⟩
  intro co2 temp
  obtain ⟨u, r, hp⟩ := exists_performs_decode s
  rw [hp.exec_eq]
  cases hp with
  | decodeShort short => rw [if_pos short]; rfl
  | decodeStored long stored => rw [if_neg (Nat.not_lt.2 long), if_pos stored]; rfl
  | decodeWarned long policy mismatch =>
    rw [if_neg (Nat.not_lt.2 long), if_neg (by simp [policy, mismatch]), if_pos policy]; rfl
  | decodeRejected long policy mismatch =>
    rw [if_neg (Nat.not_lt.2 long), if_neg (by simp [policy, mismatch]), if_neg (by simp [policy])]; rfl

/-- A DECODE of a telegram that is long enough, and not a mismatch under REJECT, commits the fields of its buffer
(42_receive_decode.md R133). -/
theorem Performs.latch_of_stored {s u : State} {r : Response} (h : Performs s .decode u r) (hlen : 24 ≤ s.rxLen.val)
    (hstored : s.policy ≠ .reject ∨ s.checksumMatches) :
    u.resValid = true ∧ u.resCo2 = s.rx.read 23 ++ s.rx.read 22 ∧ u.resTemp = s.rx.read 9 ++ s.rx.read 8 := by
  cases h with
  | decodeShort short => exact absurd hlen (Nat.not_le.2 short)
  | decodeStored | decodeWarned => exact ⟨rfl, rfl, rfl⟩
  | decodeRejected long policy mismatch => exact absurd hstored (not_or.2 ⟨not_not.2 policy, mismatch⟩)

/-- Two bytes, the more significant first, read as an unsigned number (R135). -/
theorem toNat_append_bytes (hi lo : Byte) : (hi ++ lo : Word).toNat = 256 * hi.toNat + lo.toNat := by
  rw [BitVec.toNat_append, ← Nat.shiftLeft_add_eq_or_of_lt lo.isLt, Nat.shiftLeft_eq, Nat.mul_comm]

/-- Two bytes, the more significant first, read as a two's-complement number (R136). -/
theorem toInt_append_bytes (hi lo : Byte) :
    (hi ++ lo : Word).toInt =
      (let n : Int := 256 * hi.toNat + lo.toNat; if n < 32768 then n else n - 65536) := by
  rw [BitVec.toInt_eq_toNat_cond, toNat_append_bytes]
  dsimp only
  split_ifs <;> omega

/-- Settles O21: DECODE commits the fields of the buffer, and two bytes read as the numbers said. -/
theorem storedReadingIsWhatTheBytesSay : Obligations.StoredReadingIsWhatTheBytesSay := by
  intro s hlen hstored
  obtain ⟨u, r, hp⟩ := exists_performs_decode s
  obtain ⟨hvalid, hco2, htemp⟩ := hp.latch_of_stored hlen hstored
  refine ⟨_, hp.exec_eq, hvalid, ?_, ?_⟩
  · exact (congrArg co2Ppm hco2).trans (toNat_append_bytes _ _)
  · exact (congrArg centidegrees htemp).trans (toInt_append_bytes _ _)

end Sys2Proof.Machine

end

/-! ## The pure reads (43_results_control.md R164) -/

section

namespace Sys2Proof.Machine

/-- A state with another port: other events still to be taken, other responses given. -/
def State.withPort (es : List Event) (rs : List Response) (s : State) : State :=
  { s with events := es, responses := rs }

/-- No command looks at the port: with another one there it performs the same. -/
theorem Performs.with_port {s u : State} {i : Instr} {r : Response} (h : Performs s i u r) (es : List Event)
    (rs : List Response) : Performs (s.withPort es rs) i (u.withPort es rs) r := by
  cases h <;> constructor <;> assumption

/-- Settles O31: a pure read performs without a write, and its answer does not depend on the port. -/
theorem readCommandsWriteNothing : Obligations.ReadCommandsWriteNothing := by
  intro i hread s
  obtain ⟨r, hp⟩ := exists_performs_read hread s
  exact ⟨r, fun es rs => (hp.with_port es rs).exec_eq⟩

end Sys2Proof.Machine

end

/-! ## The readers of the result latch (43_results_control.md R160 to R163) -/

section

namespace Sys2Proof.Machine

/-- A reader of the latch writes nothing and gives one response: its word, or E_NODATA while nothing is held. -/
theorem readLatch_eq_next (d : Data) (s : State) :
    readLatch d s = .next { s with responses := s.responses ++
      [if s.resValid then ⟨.ok, d⟩ else ⟨.eNodata, 0x00000000#32⟩] } := by
  rw [readLatch_eq, State.respond]
  split <;> rfl

/-- Settles O23: RD.CO2 reads the latch for `res_co2` zero-extended, and is a class-Z row. -/
theorem rdCo2AnswersTheLatch : Obligations.RdCo2AnswersTheLatch := by
  refine ⟨decode_encode .rdCo2, fun _ himm => answersIllegal_of_classZ_operand (m := .rdCo2) rfl himm, fun s => ?_⟩
  rw [← zext32_eq_append]
  exact readLatch_eq_next _ s

/-- Settles O24: RD.TEMP reads the latch for `res_temp` sign-extended, which keeps its signed value, and is a class-Z
row. -/
theorem rdTempAnswersTheLatchSigned : Obligations.RdTempAnswersTheLatchSigned := by
  refine ⟨decode_encode .rdTemp, fun _ himm => answersIllegal_of_classZ_operand (m := .rdTemp) rfl himm, fun s => ?_,
    by decide⟩
  exact ⟨sext32 s.resTemp, BitVec.toInt_signExtend_of_le (by decide), readLatch_eq_next _ s⟩

/-- Settles O25: RD.READING reads the latch for the pair, and is a class-Z row. -/
theorem rdReadingAnswersThePair : Obligations.RdReadingAnswersThePair :=
  ⟨decode_encode .rdReading, fun _ himm => answersIllegal_of_classZ_operand (m := .rdReading) rfl himm,
    fun s => readLatch_eq_next _ s⟩

/-- Settles O26: RD.HUMID writes nothing and answers E_UNSUPPORTED, and is a class-Z row. -/
theorem rdHumidIsUnsupported : Obligations.RdHumidIsUnsupported :=
  ⟨decode_encode .rdHumid, fun _ himm => answersIllegal_of_classZ_operand (m := .rdHumid) rfl himm,
    fun _ => Performs.rdHumid.exec_eq⟩

end Sys2Proof.Machine

end

/-! ## Policy, STATUS and the flags (43_results_control.md R165 to R167) -/

section

namespace Sys2Proof.Machine

/-! ### POLICY.SET -/

/-- An operand of at most 2 names a policy (R165). -/
theorem exists_policyOperand_of_le {p : Byte} (h : p.toNat ≤ 2) : ∃ q, policyOperand p = some q :=
  Option.ne_none_iff_exists'.1 (mt policyOperand_eq_none_iff.1 (Nat.not_lt.2 h))

/-- Settles O27: the row takes every operand; one that names a policy writes it, any other is refused. -/
theorem policySetSelectsOrRefuses : Obligations.PolicySetSelectsOrRefuses := by
  refine ⟨fun p => decode_encode (.policySet p), ⟨rfl, rfl, rfl⟩, fun p s hp => ?_, fun p s hp => ?_⟩
  · obtain ⟨q, hq⟩ := exists_policyOperand_of_le hp
    exact ⟨q, (policyOperand_code hq).2, (Performs.policySet hq).exec_eq⟩
  · exact (Performs.policySetRefused (policyOperand_of_gt hp)).exec_eq

/-! ### STATUS.RD -/

/-- Bits 4:0 of STATUS are the held reading and the four flags (10_state.md R31). -/
theorem getLsbD_statusView_flags (s : State) :
    (statusView s).getLsbD 0 = s.resValid ∧ (statusView s).getLsbD 1 = s.fShort
      ∧ (statusView s).getLsbD 2 = s.fCrcwarn ∧ (statusView s).getLsbD 3 = s.fCrcrej
      ∧ (statusView s).getLsbD 4 = s.fRxovf := by
  simp only [statusView, BitVec.getLsbD_append]
  simp

/-- Bits 6:5 of STATUS are the code of the policy. -/
theorem extractLsb'_statusView_policy (s : State) : (statusView s).extractLsb' 5 2 = policyCode s.policy := by
  simp only [statusView, BitVec.extractLsb'_append_eq_of_le, Nat.reduceLeDiff, Nat.reduceSub]
  exact BitVec.extractLsb'_append_eq_right

/-- Bit 7 of STATUS is reserved. -/
theorem getLsbD_statusView_reserved (s : State) : (statusView s).getLsbD 7 = false := by
  simp only [statusView, BitVec.getLsbD_append]
  simp

/-- Bits 12:8 of STATUS are `rx_len`. -/
theorem extractLsb'_statusView_rxLen (s : State) : (statusView s).extractLsb' 8 5 = rxLenBits s.rxLen := by
  simp only [statusView, BitVec.extractLsb'_append_eq_of_le, Nat.reduceLeDiff, Nat.reduceSub]
  exact BitVec.extractLsb'_append_eq_right

/-- Bits 31:13 of STATUS are reserved. -/
theorem extractLsb'_statusView_reserved (s : State) : (statusView s).extractLsb' 13 19 = 0#19 := by
  simp only [statusView, BitVec.extractLsb'_append_eq_of_le, Nat.reduceLeDiff, Nat.reduceSub]
  exact BitVec.extractLsb'_eq_self

/-- Five bits hold every count of the buffer (R24). -/
theorem toNat_rxLenBits (n : Fin 31) : (rxLenBits n).toNat = n.val :=
  (BitVec.toNat_ofNat n.val 5).trans (Nat.mod_eq_of_lt (by omega))

theorem statusView_reset : statusView State.reset = 0x00000020#32 := by decide

/-- Settles O28: STATUS.RD writes nothing and answers the view, whose fields stand at their bits, and is a class-Z
row. -/
theorem statusRdAnswersTheStatusFields : Obligations.StatusRdAnswersTheStatusFields := by
  refine ⟨decode_encode .statusRd, fun _ himm => answersIllegal_of_classZ_operand (m := .statusRd) rfl himm,
    fun s => ?_, ?_⟩
  · obtain ⟨hvalid, hshort, hwarn, hrej, hovf⟩ := getLsbD_statusView_flags s
    have hlen : ((statusView s).extractLsb' 8 5).toNat = s.rxLen.val := by
      rw [extractLsb'_statusView_rxLen, toNat_rxLenBits]
    exact ⟨statusView s, Performs.statusRd.exec_eq, hvalid, hshort, hwarn, hrej, hovf,
      extractLsb'_statusView_policy s, getLsbD_statusView_reserved s, hlen, extractLsb'_statusView_reserved s⟩
  · rw [← statusView_reset]
    exact Performs.statusRd.exec_eq

/-! ### FLAGS.CLR -/

/-- Settles O29: FLAGS.CLR clears the four flags alone, and is a class-Z row. -/
theorem flagsClrClearsTheFourFlags : Obligations.FlagsClrClearsTheFourFlags :=
  ⟨decode_encode .flagsClr, fun _ himm => answersIllegal_of_classZ_operand (m := .flagsClr) rfl himm,
    fun _ => Performs.flagsClr.exec_eq⟩

end Sys2Proof.Machine

end

/-! ## Every command completes, and no run stops (60_exceptions.md R212) -/

section

namespace Sys2Proof.Machine

/-- Settles O30: a command performs in every state, and leaves the port but for its one answer. -/
theorem everyCommandCompletesWithOneResponse : Obligations.EveryCommandCompletesWithOneResponse := by
  intro i s
  obtain ⟨u, r, hp⟩ := exists_performs i s
  exact ⟨_, r, hp.exec_eq, hp.events_eq, congrArg (· ++ [r]) hp.responses_eq⟩

/-- Every step gives a next state, whatever event it takes, and with none presented. -/
theorem exists_step_eq_next (s : State) : ∃ t, step s = .next t := by
  cases hevents : s.events with
  | nil => exact ⟨s, step_of_nil hevents⟩
  | cons e rest =>
    cases e with
    | command w =>
      obtain ⟨t, -, ht, -, -⟩ := stepWord_answers_once w (s.setEvents rest)
      exact ⟨t, (step_of_command hevents).trans ht⟩
    | reset => exact ⟨_, step_of_reset hevents⟩

/-- Settles O45, by induction on the number of steps. -/
theorem noRunStops : Obligations.NoRunStops := by
  intro k
  induction k with
  | zero => exact fun s => ⟨s, runEvents_zero s⟩
  | succ k ih =>
    intro s
    obtain ⟨t, hstep⟩ := exists_step_eq_next s
    rw [runEvents_succ k hstep]
    exact ih t

end Sys2Proof.Machine

end

/-! ## Failures are precise (60_exceptions.md R202)

`Status.RaisedBy` and `State.failureWrites` are the two columns of R202's table; `Performs.precise` ties them to the
commands. -/

section

namespace Sys2Proof.Machine

/-- The commands that answer a failure status. E_ILLEGAL is answered by no command, only by a word that names none. -/
def Status.RaisedBy (st : Status) (i : Instr) : Prop :=
  match st with
  | .eOperand => (∃ k, i = .frameRd k) ∨ ∃ p, i = .policySet p
  | .eNodata => i = .rdCo2 ∨ i = .rdTemp ∨ i = .rdReading
  | .eUnsupported => i = .rdHumid
  | .eRxfull => ∃ b, i = .rxPush b
  | .eShort => i = .decode
  | .eChecksum => i = .decode
  | .ok => False
  | .okCrcwarn => False
  | .eIllegal => False

/-- What a command that answers a failure status has written. -/
def State.failureWrites (st : Status) (s : State) : State :=
  match st with
  | .eRxfull => s.setRxovf
  | .eShort => (s.setRxLen 0).setShort
  | .eChecksum => (s.setRxLen 0).setCrcrej
  | _ => s

/-- A command that fails is one that its status is tabled for, and writes what is tabled. -/
theorem Performs.precise {s u : State} {i : Instr} {r : Response} (h : Performs s i u r)
    (hfail : r.status.failure = true) : r.status.RaisedBy i ∧ u = s.failureWrites r.status := by
  cases h with
  | @frameRdRefused k => exact ⟨.inl ⟨k, rfl⟩, rfl⟩
  | @policySetRefused p => exact ⟨.inr ⟨p, rfl⟩, rfl⟩
  | rxPushFull b => exact ⟨⟨b, rfl⟩, rfl⟩
  | rdCo2Empty => exact ⟨.inl rfl, rfl⟩
  | rdTempEmpty => exact ⟨.inr (.inl rfl), rfl⟩
  | rdReadingEmpty => exact ⟨.inr (.inr rfl), rfl⟩
  | decodeShort | decodeRejected | rdHumid => exact ⟨rfl, rfl⟩
  | _ => cases hfail

/-- The next state of a command that fails: its answer is the one change beside the tabled writes. -/
theorem Performs.next_of_failure {s u : State} {i : Instr} {r : Response} (h : Performs s i u r) {st : Status}
    (hst : r.status = st) (hfail : st.failure = true) :
    st.RaisedBy i ∧
      u.respond r.status r.data = { s.failureWrites st with responses := (u.respond r.status r.data).responses } := by
  subst hst
  obtain ⟨hraised, rfl⟩ := h.precise hfail
  exact ⟨hraised, rfl⟩

/-- Settles O38, row by row of R202's table; the row of E_ILLEGAL is empty. -/
theorem failuresArePrecise : Obligations.FailuresArePrecise := by
  refine ⟨fun w ⟨e, hw⟩ => stepWord_of_error hw, fun i s => ?_⟩
  obtain ⟨u, r, hp⟩ := exists_performs i s
  have hrow := fun st => hp.next_of_failure (st := st)
  exact ⟨_, r.status, r.data, hp.exec_eq, congrArg (· ++ [r]) hp.responses_eq,
    fun hst => (hrow .eIllegal hst rfl).1,
    fun hst => hrow .eOperand hst rfl,
    fun hst => hrow .eNodata hst rfl,
    fun hst => hrow .eUnsupported hst rfl,
    fun hst => hrow .eRxfull hst rfl,
    fun hst => hrow .eShort hst rfl,
    fun hst => hrow .eChecksum hst rfl⟩

end Sys2Proof.Machine

end

/-! ## The data of an answer (60_exceptions.md R211) -/

section

namespace Sys2Proof.Machine

/-- The failure statuses are all but OK and OK_CRCWARN. -/
theorem Status.failure_of_ne {st : Status} (hok : st ≠ .ok) (hwarn : st ≠ .okCrcwarn) : st.failure = true := by
  cases st with
  | ok => exact absurd rfl hok
  | okCrcwarn => exact absurd rfl hwarn
  | _ => rfl

/-- OK_CRCWARN comes with the reading that its DECODE has stored. -/
theorem Performs.data_of_okCrcwarn {s u : State} {i : Instr} {r : Response} (h : Performs s i u r)
    (hwarn : r.status = .okCrcwarn) : u.resValid = true ∧ r.data = u.resCo2 ++ u.resTemp := by
  cases h with
  | decodeWarned => exact ⟨rfl, rfl⟩
  | _ => cases hwarn

/-- Settles O39, by whether the word decodes. -/
theorem failureAnswersCarryNoData : Obligations.FailureAnswersCarryNoData := by
  intro w s
  cases hw : decode w with
  | ok i =>
    obtain ⟨u, r, hp⟩ := exists_performs i s
    exact ⟨_, r, (stepWord_of_ok hw s).trans hp.exec_eq, congrArg (· ++ [r]) hp.responses_eq,
      fun hok hwarn => hp.data_of_failure (Status.failure_of_ne hok hwarn), hp.data_of_okCrcwarn⟩
  | error e => exact ⟨_, ⟨.eIllegal, 0x00000000#32⟩, stepWord_of_error hw s, rfl, fun _ _ => rfl, fun h => by cases h⟩

end Sys2Proof.Machine

end

/-! ## The reset event and the end of a run (70_reset_and_hazards.md R230, R234) -/

section

namespace Sys2Proof.Machine

/-! ### The end of a run -/

/-- A step takes the oldest event, and answers it once when it is a command word and not at all when it is a reset. -/
theorem step_takes_event {s : State} {e : Event} {rest : List Event} (h : s.events = e :: rest) :
    ∃ t rs, step s = .next t ∧ t.events = rest ∧ t.responses = s.responses ++ rs
      ∧ rs.length = ([e].filter Event.isCommand).length := by
  cases e with
  | command w =>
    obtain ⟨t, r, hstep, hevents, hresponses⟩ := commandStepAnswersOnce s w rest h
    exact ⟨t, [r], hstep, hevents, hresponses, rfl⟩
  | reset => exact ⟨_, [], step_of_reset h, rfl, (List.append_nil _).symm, rfl⟩

/-- Settles O46, by induction on the events presented. -/
theorem runAnswersEveryCommand : Obligations.RunAnswersEveryCommand := by
  intro s
  induction hevents : s.events generalizing s with
  | nil => exact ⟨s, [], runEvents_zero s, hevents, (List.append_nil _).symm, rfl⟩
  | cons e rest ih =>
    obtain ⟨t, rs, hstep, htaken, hanswered, hcount⟩ := step_takes_event hevents
    obtain ⟨u, rs', hrun, hempty, hanswered', hcount'⟩ := ih t htaken
    refine ⟨u, rs ++ rs', (runEvents_succ rest.length hstep).trans hrun, hempty, ?_, ?_⟩
    · rw [hanswered', hanswered, List.append_assoc]
    · rw [← List.singleton_append, List.filter_append, List.length_append, List.length_append, hcount, hcount']

/-! ### The reset event -/

/-- STATUS depends on nothing that a reset event keeps: it reads as in the reset state. -/
theorem statusView_resetEvent (s : State) : statusView s.resetEvent = 0x00000020#32 := statusView_reset

/-- Settles O47: the step gives every element the value it has in `State.reset`, and FRAME.RD answers by its operand
alone. -/
theorem resetEventRestoresTheResetValues : Obligations.ResetEventRestoresTheResetValues := by
  intro s rest hevents
  exact ⟨_, step_of_reset hevents, rfl, rfl, rfl, rfl, rfl, rfl, rfl, rfl, statusView_resetEvent _,
    fun k => ⟨frameAnswer k, (performs_frameRd k s).exec_eq, (performs_frameRd k _).exec_eq⟩⟩

end Sys2Proof.Machine

end

/-! ## Fixed values: the status codes, the reset state, the temperature as a number -/

section

namespace Sys2Proof.Machine

/-- Settles O40: the code of each status, evaluated. -/
theorem statusCodesAsTabled : Obligations.StatusCodesAsTabled :=
  ⟨rfl, fun st => by cases st <;> decide⟩

/-- Settles O48: the fields of `State.reset` read off, and STATUS there evaluated. -/
theorem resetStateHasTheResetValues : Obligations.ResetStateHasTheResetValues :=
  ⟨rfl, rfl, rfl, rfl, rfl, rfl, rfl, rfl, statusView_reset⟩

/-- Settles O49: the reset receive space is canonical, and nothing has been answered. -/
theorem invariantHoldsAtReset : Obligations.InvariantHoldsAtReset :=
  ⟨Memory.wf_reset, fun _ hr => absurd hr List.not_mem_nil⟩

/-- Centidegrees are the 16-bit two's-complement numbers (42_receive_decode.md R136). -/
theorem centidegrees_bounds (v : Word) : -32768 ≤ centidegrees v ∧ centidegrees v ≤ 32767 :=
  ⟨BitVec.le_toInt v, Int.le_of_lt_add_one (BitVec.toInt_lt (x := v))⟩

/-- Settles O22: the division is exact, and keeps the bounds of the number of centidegrees. -/
theorem temperatureIsExactHundredths : Obligations.TemperatureIsExactHundredths := by
  intro v
  obtain ⟨hlow, hhigh⟩ := centidegrees_bounds v
  have hlow' : (-32768 : ℚ) ≤ centidegrees v := by exact_mod_cast hlow
  have hhigh' : (centidegrees v : ℚ) ≤ 32767 := by exact_mod_cast hhigh
  refine ⟨mul_div_cancel₀ _ (by norm_num), ?_, ?_⟩
  · exact div_le_div_of_nonneg_right hlow' (by norm_num)
  · exact div_le_div_of_nonneg_right hhigh' (by norm_num)

end Sys2Proof.Machine

end

/-! ## The text of a command (30_encoding.md R78)

`readLine_instrText` reads the text of a command back as the line that writes it, and `assembleLine_line` gives the word
of that line. -/

section

namespace Sys2Proof.Machine

/-! ### Reading the operand back -/

theorem readHexDigit_hexDigit : ∀ n < 16, readHexDigit (hexDigit n) = some n := by decide

/-- A byte written in hexadecimal reads as its value. -/
theorem readNumber_hexOperand (b : Byte) : readNumber (hexOperand b) = some b.toNat := by
  have hb := b.isLt
  have hhigh := readHexDigit_hexDigit (b.toNat / 16) (by omega)
  have hlow := readHexDigit_hexDigit (b.toNat % 16) (by omega)
  simp only [hexOperand, hexByte, readNumber, hhigh, hlow, Nat.div_add_mod]

/-- A name of a policy reads as the policy's code. -/
theorem readPolicyName_policyText (q : Policy) : readPolicyName (policyText q) = some (policyCode q).toNat := by
  cases q <;> decide

/-- A number in hexadecimal is no policy's name: it begins with a digit. -/
theorem readPolicyName_hexOperand (b : Byte) : readPolicyName (hexOperand b) = none := by
  simp [readPolicyName, policyText, hexOperand]

/-- The code of the policy that an operand names is the operand's value. -/
theorem toNat_policyCode_of_policyOperand {p : Byte} {q : Policy} (h : policyOperand p = some q) :
    (policyCode q).toNat = p.toNat := by
  obtain ⟨hle, hcode⟩ := policyOperand_code h
  rw [hcode, BitVec.extractLsb'_toNat, Nat.shiftRight_zero]
  omega

/-- The operand text of POLICY.SET, a name or a number, reads as the operand's value. -/
theorem readOperand_policyOperandText (p : Byte) : readOperand .policySet (policyOperandText p) = some p.toNat := by
  cases hp : policyOperand p with
  | none => simp [readOperand, policyOperandText, hp, readPolicyName_hexOperand, readNumber_hexOperand]
  | some q =>
    simp [readOperand, policyOperandText, hp, readPolicyName_policyText, toNat_policyCode_of_policyOperand hp]

/-- For the other mnemonics an operand is a number. -/
theorem readOperand_hexOperand {m : Mnemonic} (hm : m ≠ .policySet) (b : Byte) :
    readOperand m (hexOperand b) = some b.toNat := by
  rw [readOperand, if_neg hm, readNumber_hexOperand]

/-! ### Reading the line back -/

theorem readMnemonic_mnemonicText (m : Mnemonic) : readMnemonic (mnemonicText m) = some m := by
  cases m <;> decide

/-- No mnemonic has a space in it, so a line's first space ends its mnemonic. -/
theorem ne_space_of_mem_mnemonicText (m : Mnemonic) : ∀ c ∈ mnemonicText m, decide (c ≠ ' ') = true := by
  refine List.all_eq_true.1 ?_
  cases m <;> rfl

/-- A mnemonic alone is a line without an operand. -/
theorem readLine_mnemonicText (m : Mnemonic) : readLine (mnemonicText m) = some ⟨m, none⟩ := by
  have htake := List.takeWhile_eq_self_iff.2 (ne_space_of_mem_mnemonicText m)
  have hdrop := List.dropWhile_eq_nil_iff.2 (ne_space_of_mem_mnemonicText m)
  simp only [readLine, htake, hdrop, readMnemonic_mnemonicText]

/-- A mnemonic, a space and an operand that reads as a number are a line with that operand. -/
theorem readLine_mnemonicText_append {m : Mnemonic} {cs : List Char} {n : Nat} (h : readOperand m cs = some n) :
    readLine (mnemonicText m ++ ' ' :: cs) = some ⟨m, some n⟩ := by
  have htake : (mnemonicText m ++ ' ' :: cs).takeWhile (· ≠ ' ') = mnemonicText m := by
    rw [List.takeWhile_append_of_pos (ne_space_of_mem_mnemonicText m)]
    simp
  have hdrop : (mnemonicText m ++ ' ' :: cs).dropWhile (· ≠ ' ') = ' ' :: cs := by
    rw [List.dropWhile_append_of_pos (ne_space_of_mem_mnemonicText m)]
    simp
  simp only [readLine, htake, hdrop, readMnemonic_mnemonicText, h]

/-- The text of an instruction reads as the line that writes it. -/
theorem readLine_instrText (i : Instr) : readLine (instrText i) = some i.line := by
  have hclassZ := readLine_mnemonicText i.mnemonic
  cases i with
  | crcFeed b | frameRd b | rxPush b => exact readLine_mnemonicText_append (readOperand_hexOperand (by decide) b)
  | policySet p => exact readLine_mnemonicText_append (readOperand_policyOperandText p)
  | _ => exact hclassZ

/-! ### The word of the line -/

/-- The line that writes an instruction assembles to the instruction's word. -/
theorem assembleLine_line (i : Instr) : assembleLine i.line = some (encode i) := by
  have hoperand : i.line.operand.getD 0 = (i.operand.getD 0x00#8).toNat := Option.getD_map BitVec.toNat 0x00#8 i.operand
  have hle : (i.operand.getD 0x00#8).toNat ≤ 255 := Nat.le_of_lt_succ (BitVec.isLt _)
  rw [assembleLine_of_wellFormed i.wellFormed_eq_true, hoperand, ← append_eq_shiftLeft_or _ hle,
    BitVec.ofNat_toNat, BitVec.setWidth_eq]
  rfl

/-- Settles O7: the text reads as the instruction's line, and the line assembles to its word. -/
theorem commandTextAssemblesToItsWord : Obligations.CommandTextAssemblesToItsWord := by
  intro i
  rw [assemble, readLine_instrText]
  exact assembleLine_line i

end Sys2Proof.Machine

end

/-! ## The residue of the CRC (93_implementation_defined.md GK5)

Feeding a code's own low byte clears the low byte of the register, so the eight rounds only shift the high byte down;
feeding the high byte then clears what is left. -/

section

namespace Sys2Proof.Machine

/-- A round that shifts out a 0 is a shift (40_crc.md R100). -/
theorem crcRound_of_even {r : Word} (h : r.getLsbD 0 = false) : crcRound r = r >>> 1 := by
  rw [crcRound, h, if_neg Bool.false_ne_true]

/-- Rounds that shift out only 0s are a shift by their number. -/
theorem crcRound_iterate_of_low_zeros {k : Nat} {r : Word} (h : ∀ i < k, r.getLsbD i = false) :
    crcRound^[k] r = r >>> k := by
  induction k with
  | zero => exact (BitVec.ushiftRight_zero r).symm
  | succ k ih =>
    have hbit : (r >>> k).getLsbD 0 = false := by
      rw [BitVec.getLsbD_ushiftRight]
      exact h k k.lt_succ_self
    rw [Function.iterate_succ_apply', ih fun i hi => h i (by omega), crcRound_of_even hbit, BitVec.shiftRight_add]

/-- Eight rounds bring a high byte with zeros below it down to the low byte. -/
theorem crcRound_iterate_eight_append_zero (hi : Byte) : crcRound^[8] (hi ++ 0x00#8) = 0x00#8 ++ hi := by
  have hlow : ∀ i < 8, (hi ++ 0x00#8 : Word).getLsbD i = false := fun i hi8 =>
    BitVec.getLsbD_append.trans ((if_pos hi8).trans BitVec.getLsbD_zero)
  rw [crcRound_iterate_of_low_zeros hlow, BitVec.ushiftRight_eq_extractLsb'_of_lt (by decide)]
  exact congrArg (0x00#8 ++ ·) BitVec.extractLsb'_append_eq_left

/-- A byte that equals the register's low byte leaves the high byte, moved down. -/
theorem crcByte_codeLo (c : Word) : crcByte c (codeLo c) = 0x00#8 ++ codeHi c := by
  rw [crcByte, xor_setWidth_byte, BitVec.xor_self]
  exact crcRound_iterate_eight_append_zero (codeHi c)

/-- A byte that equals a register without a high byte clears it. -/
theorem crcByte_self (b : Byte) : crcByte (0x00#8 ++ b) b = 0x0000#16 := by
  have hb : b.setWidth 16 = 0x00#8 ++ b := BitVec.setWidth_eq_append (by decide)
  rw [crcByte, hb, BitVec.xor_self]
  decide

/-- Settles O12: the low byte of the code leaves the high byte, and the high byte clears it. -/
theorem sequenceWithItsCodeLeavesZero : Obligations.SequenceWithItsCodeLeavesZero := by
  intro bs
  have hsplit : bs ++ [codeLo (crc16 bs), codeHi (crc16 bs)] = (bs ++ [codeLo (crc16 bs)]) ++ [codeHi (crc16 bs)] := by
    rw [List.append_assoc, List.singleton_append]
  rw [hsplit, crc16_append_singleton, crc16_append_singleton, crcByte_codeLo, crcByte_self]

end Sys2Proof.Machine

end

/-! ## Runs of commands, without the port

`PerformsAll s is u rs` says what commands do one after the other, their answers set apart; `PerformsAll.runEvents_eq`
ties it to the run over the words presented (20_memory.md R60, 70_reset_and_hazards.md R234). -/

section

namespace Sys2Proof.Machine

/-- From `s` the commands write what leads to `u`, one after the other, and give the answers `rs`. -/
inductive PerformsAll : State → List Instr → State → List Response → Prop where
  | nil (s : State) : PerformsAll s [] s []
  | cons {s u v : State} {i : Instr} {is : List Instr} {r : Response} {rs : List Response}
      (first : Performs s i u r) (others : PerformsAll u is v rs) : PerformsAll s (i :: is) v (r :: rs)

theorem PerformsAll.singleton {s u : State} {i : Instr} {r : Response} (h : Performs s i u r) :
    PerformsAll s [i] u [r] :=
  .cons h (.nil u)

theorem PerformsAll.append {s u v : State} {is js : List Instr} {rs qs : List Response}
    (h : PerformsAll s is u rs) (h' : PerformsAll u js v qs) : PerformsAll s (is ++ js) v (rs ++ qs) := by
  induction h with
  | nil => exact h'
  | cons first _ ih => exact .cons first (ih h')

/-- Each command gives one answer. -/
theorem PerformsAll.length_eq {s u : State} {is : List Instr} {rs : List Response} (h : PerformsAll s is u rs) :
    rs.length = is.length := by
  induction h with
  | nil => rfl
  | cons _ _ ih => exact congrArg (· + 1) ih

/-- Commands complete one after the other from every state (60_exceptions.md R212). -/
theorem exists_performsAll (is : List Instr) (s : State) : ∃ u rs, PerformsAll s is u rs := by
  induction is generalizing s with
  | nil => exact ⟨s, [], .nil s⟩
  | cons i is ih =>
    obtain ⟨u, r, hp⟩ := exists_performs i s
    obtain ⟨v, rs, hall⟩ := ih u
    exact ⟨v, r :: rs, .cons hp hall⟩

/-- On a port that presents the commands, the run takes them all and adds their answers. -/
theorem PerformsAll.runEvents_withPort {s u : State} {is : List Instr} {rs : List Response}
    (h : PerformsAll s is u rs) (rest : List Event) (given : List Response) :
    runEvents is.length (s.withPort (presented is ++ rest) given) = .next (u.withPort rest (given ++ rs)) := by
  induction h generalizing given with
  | nil s => rw [List.append_nil]; rfl
  | @cons s u v i is r rs first _ ih =>
    have hfirst : Performs ((s.withPort (presented (i :: is) ++ rest) given).setEvents (presented is ++ rest)) i
        (u.withPort (presented is ++ rest) given) r := first.with_port _ _
    calc runEvents (is.length + 1) (s.withPort (presented (i :: is) ++ rest) given)
        = runEvents is.length (u.withPort (presented is ++ rest) (given ++ [r])) :=
          runEvents_presented_cons rfl hfirst is.length
      _ = .next (v.withPort rest (given ++ [r] ++ rs)) := ih (given ++ [r])
      _ = .next (v.withPort rest (given ++ r :: rs)) := by rw [List.append_assoc, List.singleton_append]

/-- From a state that presents the commands, the run is what they do. -/
theorem PerformsAll.runEvents_eq {s u : State} {is : List Instr} {rs : List Response} {rest : List Event}
    (h : PerformsAll s is u rs) (hevents : s.events = presented is ++ rest) :
    runEvents is.length s = .next (u.withPort rest (s.responses ++ rs)) := by
  have hrun := h.runEvents_withPort rest s.responses
  rw [← hevents] at hrun
  exact hrun

end Sys2Proof.Machine

end

/-! ## The CRC commands compute the code (40_crc.md R102 to R106) -/

section

namespace Sys2Proof.Machine

/-- What feeding the bytes from the register value `c` answers: the value after each byte. -/
def feedAnswers (c : Word) (bs : List Byte) : List Response :=
  (List.range bs.length).map fun k => ⟨.ok, 0x0000#16 ++ (bs.take (k + 1)).foldl crcByte c⟩

theorem feedAnswers_cons (c : Word) (b : Byte) (bs : List Byte) :
    feedAnswers c (b :: bs) = ⟨.ok, zext32 (crcByte c b)⟩ :: feedAnswers (crcByte c b) bs := by
  rw [feedAnswers, List.length_cons, List.range_succ_eq_map, List.map_cons, List.map_map, zext32_eq_append]
  rfl

/-- Feeding bytes folds them into the register, and each feed answers the value so far. -/
theorem performsAll_crcFeeds (bs : List Byte) (s : State) :
    PerformsAll s (bs.map .crcFeed) (s.setCrc (bs.foldl crcByte s.crc)) (feedAnswers s.crc bs) := by
  induction bs generalizing s with
  | nil => exact .nil s
  | cons b bs ih =>
    rw [feedAnswers_cons]
    exact .cons (.crcFeed b) (ih (s.setCrc (crcByte s.crc b)))

/-- CRC.INIT, a CRC.FEED per byte and CRC.READ leave the code in the register and answer it. -/
theorem performsAll_crcCommands (bs : List Byte) (s : State) :
    PerformsAll s (.crcInit :: bs.map .crcFeed ++ [.crcRead]) (s.setCrc (crc16 bs))
      (⟨.ok, 0x00000000#32⟩ :: feedAnswers Config.crcInit bs ++ [⟨.ok, 0x0000#16 ++ crc16 bs⟩]) := by
  rw [← zext32_eq_append]
  have hfeeds := PerformsAll.cons .crcInit (performsAll_crcFeeds bs (s.setCrc Config.crcInit))
  exact hfeeds.append (.singleton .crcRead)

/-- Settles O52: the run over the presented words is the chain of the commands. -/
theorem crcCommandsComputeTheCode : Obligations.CrcCommandsComputeTheCode := by
  intro bs s rest hevents
  have hrun := (performsAll_crcCommands bs s).runEvents_eq hevents
  have hlen : (Instr.crcInit :: bs.map Instr.crcFeed ++ [Instr.crcRead]).length = bs.length + 2 := by simp
  rw [hlen, ← List.append_assoc] at hrun
  exact hrun

end Sys2Proof.Machine

end

/-! ## The bytes received (42_receive_decode.md R130, R131)

`State.received` is the valid part of the buffer as a list. RX.PUSH appends to it and keeps 30 bytes of it
(`Performs.received_of_rxPush`), so any number of pushes does (`PerformsAll.pushed`). -/

section

namespace Sys2Proof.Machine

/-- The valid bytes of the buffer, in order (10_state.md R24, R25). -/
def State.received (s : State) : List Byte := s.rxBytes s.rxLen.val

/-! ### The received bytes and the buffer -/

theorem State.length_received (s : State) : s.received.length = s.rxLen.val := by
  simp [received, rxBytes]

/-- A byte received is the byte of the buffer at its place. -/
theorem State.received_getD {s : State} {k : Nat} (hk : k < s.rxLen.val) :
    s.received.getD k 0x00#8 = s.rx.read k := by
  simp [received, rxBytes, rxRead, hk]

/-- The first bytes received are the first bytes of the buffer. -/
theorem State.received_take {s : State} {k : Nat} (hk : k ≤ s.rxLen.val) : s.received.take k = s.rxBytes k := by
  rw [received, rxBytes, ← List.map_take, List.take_range, Nat.min_eq_left hk]
  rfl

/-- The checksum test is a test of the received bytes alone (R139). -/
theorem State.checksumMatches_iff_received {s : State} (h : 2 ≤ s.rxLen.val) :
    s.checksumMatches ↔ crc16 (s.received.take (s.rxLen.val - 2)) =
      s.received.getD (s.rxLen.val - 1) 0x00#8 ++ s.received.getD (s.rxLen.val - 2) 0x00#8 := by
  rw [received_take (by omega), received_getD (by omega), received_getD (by omega)]
  rfl

/-! ### Pushing bytes -/

/-- RX.PUSH appends its byte to the received bytes, and 30 of them are kept (R131). -/
theorem Performs.received_of_rxPush {s u : State} {b : Byte} {r : Response} (h : Performs s (.rxPush b) u r)
    (hwf : s.rx.wf = true) : u.received = (s.received ++ [b]).take 30 := by
  have hlen := s.length_received
  cases h with
  | rxPush _ room =>
    have hlt := rxLen_lt_thirty room
    have hold : (List.range s.rxLen.val).map (s.rx.write s.rxLen.val b).read = s.received :=
      List.map_congr_left fun a ha => Memory.read_write_other _ b (List.mem_range.1 ha).ne
    have hnew : (s.rx.write s.rxLen.val b).read s.rxLen.val = b := Memory.read_write_same b hwf
    rw [List.take_of_length_le (by simp; omega)]
    calc (List.range (s.rxLen + 1).val).map (s.rx.write s.rxLen.val b).read
        = (List.range s.rxLen.val).map (s.rx.write s.rxLen.val b).read
            ++ [(s.rx.write s.rxLen.val b).read s.rxLen.val] := by
          rw [rxLen_succ room, List.range_succ, List.map_append, List.map_singleton]
      _ = s.received ++ [b] := by rw [hold, hnew]
  | rxPushFull _ full =>
    rw [rxLen_eq_thirty.1 full] at hlen
    exact (List.take_left' hlen).symm

/-- Cutting a list to its first `n` before appending changes nothing in the first `n` of the whole. -/
theorem take_take_append {α : Type} (n : Nat) (l l' : List α) : (l.take n ++ l').take n = (l ++ l').take n := by
  have hcount : n - min n l.length = n - l.length := by omega
  rw [List.take_append, List.take_append, List.take_take, Nat.min_self, List.length_take, hcount]

/-- What pushing `bs` from `s` leaves: the buffer and `f_rxovf` are all that changed, and the received bytes are the
first 30 of what there is now. -/
structure State.Pushed (s : State) (bs : List Byte) (u : State) : Prop where
  frame    : u = { s with rx := u.rx, rxLen := u.rxLen, fRxovf := u.fRxovf }
  received : u.received = (s.received ++ bs).take 30
  fRxovf   : u.fRxovf = true ↔ s.fRxovf = true ∨ 30 < s.rxLen.val + bs.length

/-- Pushing no byte changes nothing. -/
theorem State.Pushed.nil (s : State) : s.Pushed [] s where
  frame := rfl
  received := by
    rw [List.append_nil, List.take_of_length_le (by rw [s.length_received]; omega)]
  fRxovf := by simp; omega

/-- One RX.PUSH pushes its byte. -/
theorem Performs.pushed {s u : State} {b : Byte} {r : Response} (h : Performs s (.rxPush b) u r)
    (hwf : s.rx.wf = true) : s.Pushed [b] u where
  frame := by cases h <;> rfl
  received := h.received_of_rxPush hwf
  fRxovf := by
    have hfull : s.rxLen.val = 30 ↔ 30 < s.rxLen.val + 1 := by omega
    simpa [hfull] using h.fRxovf_iff

/-- How many bytes there are after a push. -/
theorem State.Pushed.rxLen {s u : State} {bs : List Byte} (h : s.Pushed bs u) :
    u.rxLen.val = min 30 (s.rxLen.val + bs.length) := by
  rw [← u.length_received, h.received, List.length_take, List.length_append, s.length_received]

/-- Pushing on where a push ended. -/
theorem State.Pushed.trans {s u v : State} {bs cs : List Byte} (h : s.Pushed bs u) (h' : u.Pushed cs v) :
    s.Pushed (bs ++ cs) v where
  frame := by rw [h'.frame, h.frame]
  received := by
    rw [h'.received, h.received, ← List.append_assoc, take_take_append]
  fRxovf := by
    have hcount : (30 < s.rxLen.val + bs.length ∨ 30 < min 30 (s.rxLen.val + bs.length) + cs.length)
        ↔ 30 < s.rxLen.val + (bs.length + cs.length) := by omega
    rw [h'.fRxovf, h.fRxovf, h.rxLen, List.length_append, or_assoc, hcount]

/-- Any number of RX.PUSH commands push their bytes, by induction on them. -/
theorem PerformsAll.pushed {bs : List Byte} {s u : State} {rs : List Response}
    (h : PerformsAll s (bs.map .rxPush) u rs) (hwf : s.rx.wf = true) : s.Pushed bs u := by
  induction bs generalizing s rs with
  | nil => cases h; exact .nil _
  | cons b bs ih =>
    cases h with
    | cons first others => exact (first.pushed hwf).trans (ih others (first.rx_wf hwf))

/-! ### From an emptied buffer -/

/-- RX.CLEAR and a push of bytes: the commands complete, and the bytes are pushed into the emptied buffer. -/
theorem exists_performsAll_pushed (bs : List Byte) {s : State} (hwf : s.rx.wf = true) :
    ∃ u rs, PerformsAll s (.rxClear :: bs.map .rxPush) u rs ∧ (s.setRxLen 0).Pushed bs u := by
  obtain ⟨u, rs, hpushes⟩ := exists_performsAll (bs.map .rxPush) (s.setRxLen 0)
  exact ⟨u, _, .cons .rxClear hpushes, hpushes.pushed hwf⟩

/-- From an emptied buffer the received bytes are the first 30 of those pushed. -/
theorem State.Pushed.received_of_empty {s u : State} {bs : List Byte} (h : (s.setRxLen 0).Pushed bs u) :
    u.received = bs.take 30 := h.received

/-- Settles O54: the run over the presented words is RX.CLEAR and the pushes. -/
theorem bufferHoldsTheFirstThirtyBytes : Obligations.BufferHoldsTheFirstThirtyBytes := by
  intro bs s rest hwf hevents
  obtain ⟨u, rs, hall, hpushed⟩ := exists_performsAll_pushed bs hwf
  have hrun := hall.runEvents_eq hevents
  rw [List.length_cons, List.length_map] at hrun
  have hlen : u.rxLen.val = min bs.length 30 := by
    rw [← u.length_received, hpushed.received_of_empty, List.length_take, Nat.min_comm]
  have hovf : u.fRxovf = true ↔ s.fRxovf = true ∨ 30 < bs.length := by simpa using hpushed.fRxovf
  refine ⟨_, hrun, rfl, hlen, fun k hk => ?_, hovf⟩
  calc u.rx.read k
      = u.received.getD k 0x00#8 := (State.received_getD (by omega)).symm
    _ = (bs.take 30).getD k 0x00#8 := by rw [hpushed.received_of_empty]
    _ = bs.getD k 0x00#8 := by
      have hlt : k < 30 := by omega
      simp [List.getD_eq_getElem?_getD, List.getElem?_take_of_lt hlt]

end Sys2Proof.Machine

end

/-! ## A pushed telegram is decoded (42_receive_decode.md R132 to R142) -/

section

namespace Sys2Proof.Machine

/-- A telegram that fits into the emptied buffer: only the bytes and their count change. -/
theorem State.Pushed.eq_of_fits {s u : State} {bs : List Byte} (h : (s.setRxLen 0).Pushed bs u)
    (hfits : bs.length ≤ 30) : ∃ m n, u = { s with rx := m, rxLen := n } := by
  have hovf : u.fRxovf = s.fRxovf := by
    have hnot : ¬ 30 < 0 + bs.length := by omega
    exact Bool.eq_iff_iff.2 (h.fRxovf.trans (or_iff_left hnot))
  refine ⟨u.rx, u.rxLen, ?_⟩
  rw [← hovf]
  exact h.frame

/-- A telegram that fits into the emptied buffer is received whole. -/
theorem State.Pushed.received_of_fits {s u : State} {bs : List Byte} (h : (s.setRxLen 0).Pushed bs u)
    (hfits : bs.length ≤ 30) : u.received = bs := by
  rw [h.received_of_empty, List.take_of_length_le hfits]

/-- The CO2 field of a received telegram is its bytes 23 and 22 (R135). -/
theorem State.co2Field_eq_received {s : State} (h : 24 ≤ s.rxLen.val) :
    s.co2Field = s.received.getD 23 0x00#8 ++ s.received.getD 22 0x00#8 := by
  rw [received_getD (by omega), received_getD (by omega)]; rfl

/-- The temperature field of a received telegram is its bytes 9 and 8 (R136). -/
theorem State.tempField_eq_received {s : State} (h : 24 ≤ s.rxLen.val) :
    s.tempField = s.received.getD 9 0x00#8 ++ s.received.getD 8 0x00#8 := by
  rw [received_getD (by omega), received_getD (by omega)]; rfl

/-- The run over RX.CLEAR, the pushes and a DECODE ends in what the DECODE writes and answers. -/
theorem runEvents_telegram {bs : List Byte} {s u v : State} {rest : List Event} {rs : List Response} {r : Response}
    (hevents : s.events = presented (.rxClear :: bs.map .rxPush ++ [.decode]) ++ rest)
    (hpushes : PerformsAll s (.rxClear :: bs.map .rxPush) u rs) (hdecode : Performs u .decode v r) :
    runEvents (bs.length + 2) s = .next (v.withPort rest (s.responses ++ rs ++ [r])) := by
  have hrun := (hpushes.append (.singleton hdecode)).runEvents_eq hevents
  rwa [List.length_append, List.length_cons, List.length_map, ← List.append_assoc] at hrun

/-- Settles O55: the telegram is received whole, and the DECODE that follows ends by policy and checksum. -/
theorem pushedTelegramIsDecoded : Obligations.PushedTelegramIsDecoded := by
  intro bs s rest hlong hfits hwf hevents byte co2 temp ok
  obtain ⟨u, rs, hall, hpushed⟩ := exists_performsAll_pushed bs hwf
  have hbytes : u.received = bs := hpushed.received_of_fits hfits
  have hlen : u.rxLen.val = bs.length := by rw [← u.length_received, hbytes]
  have hlong' : 24 ≤ u.rxLen.val := hlen ▸ hlong
  have hco2 : u.co2Field = co2 := by rw [State.co2Field_eq_received hlong', hbytes]
  have htemp : u.tempField = temp := by rw [State.tempField_eq_received hlong', hbytes]
  have hok : u.checksumMatches ↔ ok := by
    rw [State.checksumMatches_iff_received (by omega), hbytes, hlen]
  obtain ⟨m, n, rfl⟩ := hpushed.eq_of_fits hfits
  refine ⟨m, rs, by simpa using hall.length_eq, fun hstored => ?_, fun hwarn hbad => ?_, fun hreject hbad => ?_⟩
  · rw [runEvents_telegram hevents hall (.decodeStored hlong' (by rwa [hok])), hco2, htemp]; rfl
  · rw [runEvents_telegram hevents hall (.decodeWarned hlong' hwarn (by rwa [hok])), hco2, htemp]; rfl
  · rw [runEvents_telegram hevents hall (.decodeRejected hlong' hreject (by rwa [hok]))]; rfl

end Sys2Proof.Machine

end
